-- ==== Sys2Proof/Word.lean ====
section
/-!
DEFINITION. The two word types of the block: the byte of the data port and of the control word, and the
16-bit word of the counter registers (00_scope.md rule R5, last paragraph).
-/

namespace Sys2Proof

/-- One byte of the 8-bit data path, and one control word (R5, R60). -/
abbrev Byte := BitVec 8

/-- One counter register: `count_register`, `counting_element`, `count_latch`, `load_mask` (R5, R11 to R13, R18). -/
abbrev Count := BitVec 16

end Sys2Proof
end

