-- ==== Sys2Proof/Config.lean ====
section
/-!
DEFINITION. The names the spec numbers (channels, counting modes, access modes, pin levels, variants) and the
implementation parameters of 00_scope.md rule R5.
-/

namespace Sys2Proof

/-- The three channels (R2; exactly three: 90_conflicts.md C2). -/
inductive Channel where
  | ch0 | ch1 | ch2
deriving DecidableEq, Repr

/-- The six counting modes (R15, R63), in the source's order: 0 Interrupt-on-Terminal-Count,
1 Hardware-Retriggerable-One-Shot, 2 Rate-Generator, 3 Square-Wave-Generator, 4 Software-Triggered-Strobe,
5 Hardware-Triggered-Strobe. -/
inductive Mode where
  | mode0 | mode1 | mode2 | mode3 | mode4 | mode5
deriving DecidableEq, Repr

/-- The eight values of the mode field of a control word, bits 3:1 (R63; 6 and 7 are mapped by R66). -/
inductive ModeField where
  | f0 | f1 | f2 | f3 | f4 | f5 | f6 | f7
deriving DecidableEq, Repr

/-- The access modes a channel stores (R16): LSB-only (1), MSB-only (2), LSB-then-MSB (3). The fourth value of the
control word's field, the latch request (0), is never stored (92_eei_decisions.md D26). -/
inductive Access where
  | lsb | msb | lsbMsb
deriving DecidableEq, Repr

/-- The level of a pin: LOW is 0, HIGH is 1 (R9). -/
inductive Level where
  | low | high
deriving DecidableEq, Repr

/-- The two silicon variants (R3, R4). -/
inductive Variant where
  | early | late
deriving DecidableEq, Repr

/-- The open parameters of one channel (R5): `RESET_MODE[c]`, `RESET_ACCESS[c]`, `RESET_BCD[c]`, `GATE_INIT[c]`. -/
structure ChannelParams where
  resetMode   : Mode
  resetAccess : Access
  resetBcd    : Bool
  gateInit    : Level
deriving DecidableEq, Repr

/-- The parameters of one instance of the block (R5). They are fixed when the instance is created. -/
structure Params where
  /-- `VARIANT`. -/
  variant     : Variant
  /-- `PLACEHOLDER` (R164, 92_eei_decisions.md D10). -/
  placeholder : Count
  channel0    : ChannelParams
  channel1    : ChannelParams
  channel2    : ChannelParams
deriving DecidableEq, Repr

/-- The parameters of one channel. -/
def Params.channel (p : Params) : Channel → ChannelParams
  | .ch0 => p.channel0
  | .ch1 => p.channel1
  | .ch2 => p.channel2

/-- The placeholder of the instance that `State.reset` describes. No source gives a number (91_not_in_source.md N4),
so this is a FREE VALUE: it has no body and nothing can be proved of it (assumption log 3). -/
opaque Config.placeholder : Count

/-- DESIGN CHOICE (assumption log 2): the open reset parameters of the instance that `State.reset` describes. Mode and
BCD flag are zero, the access mode is the lowest legal value, and the gate is HIGH as in every vector of
95_test_vectors.md. Statements quantify over all parameters. -/
def Config.resetChannel : ChannelParams :=
  { resetMode := .mode0, resetAccess := .lsb, resetBcd := false, gateInit := .high }

/-- DESIGN CHOICE (assumption log 1, 2, 3): the parameters of the instance that `State.reset` describes. The variant is
`Early`, the convention of 95_test_vectors.md. -/
def Config.resetParams : Params :=
  { variant := .early, placeholder := Config.placeholder,
    channel0 := Config.resetChannel, channel1 := Config.resetChannel, channel2 := Config.resetChannel }

end Sys2Proof
end

