-- ==== Sys2Proof/Syntax.lean ====
section
/-!
DEFINITION. The operations of the block, one constructor for each row of spec/opcode_table.json (30_encoding.md rule
R73), and the inputs an environment can deliver (20_memory.md rules R40 to R43).
-/

namespace Sys2Proof

/-- One operation: a row of the opcode table. The four formats of R73 follow one another: control words (CW8), bus
accesses (BUS3), pin events (PIN) and the operations that a tick, a count write or a latch word selects (INTERNAL). -/
inductive Instr where
  /-- READBACK_EARLY, R87: control words 0xC0 to 0xFF where `VARIANT` is `Early`. -/
  | readbackEarly
  /-- READBACK_LATE, R88: control words 0xC0 to 0xFF where `VARIANT` is `Late`. -/
  | readbackLate
  /-- LATCH0, LATCH1, LATCH2, R81: control word `cc00xxxx`, bits 3:0 ignored. -/
  | latch0
  | latch1
  | latch2
  /-- MODESET_C<channel>_<access>_M<mode bits>, R82: control word `ccaammmd`; the operand is bit 0, the BCD flag. -/
  | modesetC0LsbM0 (bcd : Bool)
  | modesetC0LsbM1 (bcd : Bool)
  | modesetC0LsbM2 (bcd : Bool)
  | modesetC0LsbM3 (bcd : Bool)
  | modesetC0LsbM4 (bcd : Bool)
  | modesetC0LsbM5 (bcd : Bool)
  | modesetC0LsbM6 (bcd : Bool)
  | modesetC0LsbM7 (bcd : Bool)
  | modesetC0MsbM0 (bcd : Bool)
  | modesetC0MsbM1 (bcd : Bool)
  | modesetC0MsbM2 (bcd : Bool)
  | modesetC0MsbM3 (bcd : Bool)
  | modesetC0MsbM4 (bcd : Bool)
  | modesetC0MsbM5 (bcd : Bool)
  | modesetC0MsbM6 (bcd : Bool)
  | modesetC0MsbM7 (bcd : Bool)
  | modesetC0LsbmsbM0 (bcd : Bool)
  | modesetC0LsbmsbM1 (bcd : Bool)
  | modesetC0LsbmsbM2 (bcd : Bool)
  | modesetC0LsbmsbM3 (bcd : Bool)
  | modesetC0LsbmsbM4 (bcd : Bool)
  | modesetC0LsbmsbM5 (bcd : Bool)
  | modesetC0LsbmsbM6 (bcd : Bool)
  | modesetC0LsbmsbM7 (bcd : Bool)
  | modesetC1LsbM0 (bcd : Bool)
  | modesetC1LsbM1 (bcd : Bool)
  | modesetC1LsbM2 (bcd : Bool)
  | modesetC1LsbM3 (bcd : Bool)
  | modesetC1LsbM4 (bcd : Bool)
  | modesetC1LsbM5 (bcd : Bool)
  | modesetC1LsbM6 (bcd : Bool)
  | modesetC1LsbM7 (bcd : Bool)
  | modesetC1MsbM0 (bcd : Bool)
  | modesetC1MsbM1 (bcd : Bool)
  | modesetC1MsbM2 (bcd : Bool)
  | modesetC1MsbM3 (bcd : Bool)
  | modesetC1MsbM4 (bcd : Bool)
  | modesetC1MsbM5 (bcd : Bool)
  | modesetC1MsbM6 (bcd : Bool)
  | modesetC1MsbM7 (bcd : Bool)
  | modesetC1LsbmsbM0 (bcd : Bool)
  | modesetC1LsbmsbM1 (bcd : Bool)
  | modesetC1LsbmsbM2 (bcd : Bool)
  | modesetC1LsbmsbM3 (bcd : Bool)
  | modesetC1LsbmsbM4 (bcd : Bool)
  | modesetC1LsbmsbM5 (bcd : Bool)
  | modesetC1LsbmsbM6 (bcd : Bool)
  | modesetC1LsbmsbM7 (bcd : Bool)
  | modesetC2LsbM0 (bcd : Bool)
  | modesetC2LsbM1 (bcd : Bool)
  | modesetC2LsbM2 (bcd : Bool)
  | modesetC2LsbM3 (bcd : Bool)
  | modesetC2LsbM4 (bcd : Bool)
  | modesetC2LsbM5 (bcd : Bool)
  | modesetC2LsbM6 (bcd : Bool)
  | modesetC2LsbM7 (bcd : Bool)
  | modesetC2MsbM0 (bcd : Bool)
  | modesetC2MsbM1 (bcd : Bool)
  | modesetC2MsbM2 (bcd : Bool)
  | modesetC2MsbM3 (bcd : Bool)
  | modesetC2MsbM4 (bcd : Bool)
  | modesetC2MsbM5 (bcd : Bool)
  | modesetC2MsbM6 (bcd : Bool)
  | modesetC2MsbM7 (bcd : Bool)
  | modesetC2LsbmsbM0 (bcd : Bool)
  | modesetC2LsbmsbM1 (bcd : Bool)
  | modesetC2LsbmsbM2 (bcd : Bool)
  | modesetC2LsbmsbM3 (bcd : Bool)
  | modesetC2LsbmsbM4 (bcd : Bool)
  | modesetC2LsbmsbM5 (bcd : Bool)
  | modesetC2LsbmsbM6 (bcd : Bool)
  | modesetC2LsbmsbM7 (bcd : Bool)
  /-- READ_DATA0, READ_DATA1, READ_DATA2, R124: a bus read of port 0, 1 or 2. -/
  | readData0
  | readData1
  | readData2
  /-- READ_CTRL, R44: a bus read of port 3. -/
  | readCtrl
  /-- WRITE_DATA0, WRITE_DATA1, WRITE_DATA2, R100: a bus write of port 0, 1 or 2 with a data byte. -/
  | writeData0 (b : Byte)
  | writeData1 (b : Byte)
  | writeData2 (b : Byte)
  /-- WRITE_CTRL, R80: a bus write of port 3; the data byte is a control word. -/
  | writeCtrl (b : Byte)
  /-- SET_GATE, R141: pin event `GATE c, g`. -/
  | setGate (c : Channel) (g : Level)
  /-- TICK, R160: one clock pulse to all three channels. -/
  | tick
  /-- CH_TICK, R161: one clock pulse to one channel (92_eei_decisions.md D3). -/
  | chTick (c : Channel)
  /-- RESET, R230. -/
  | reset
  /-- LOAD_CYCLE, R162. -/
  | loadCycle (c : Channel)
  /-- PLACEHOLDER_LOAD, R164. -/
  | placeholderLoad (c : Channel)
  /-- COUNT_MODE0 to COUNT_MODE5, R181, R184, R187, R193, R198, R200. -/
  | countMode0 (c : Channel)
  | countMode1 (c : Channel)
  | countMode2 (c : Channel)
  | countMode3 (c : Channel)
  | countMode4 (c : Channel)
  | countMode5 (c : Channel)
  /-- COMPLETE_LOAD, R104. -/
  | completeLoad (c : Channel)
  /-- LATCH_OP, R121. -/
  | latchOp (c : Channel)
deriving DecidableEq, Repr

/-- The four formats of the opcode table (R73). -/
inductive Format where
  | cw8 | bus3 | pin | internal
deriving DecidableEq, Repr

/-- One event as the environment delivers it (R40 to R42). A control word can arrive as the logical event
`WRITE_CTRL(w)` of R42, which needs no port number, or as a bus write of port 3 (R43). -/
inductive Input where
  /-- The event `WRITE_CTRL(w)`: a control word at the mode decoder (format CW8). -/
  | control (w : Byte)
  /-- One bus access: the 3-bit operation code and the data byte that goes with it (format BUS3, R70). On a read the
  block drives the data byte, so what stands here is ignored. -/
  | bus (code : BitVec 3) (data : Byte)
  /-- Pin event `GATE c, g`. -/
  | setGate (c : Channel) (g : Level)
  /-- Pin event `TICK`. -/
  | tick
  /-- Pin event `CH_TICK(c)`, for an embedding with one clock for each channel. -/
  | chTick (c : Channel)
  /-- Pin event `RESET`. -/
  | reset
deriving DecidableEq, Repr

/-- The format of an operation's row. -/
def Instr.format : Instr → Format
  | .readbackEarly => .cw8
  | .readbackLate => .cw8
  | .latch0 => .cw8
  | .latch1 => .cw8
  | .latch2 => .cw8
  | .modesetC0LsbM0 _ => .cw8
  | .modesetC0LsbM1 _ => .cw8
  | .modesetC0LsbM2 _ => .cw8
  | .modesetC0LsbM3 _ => .cw8
  | .modesetC0LsbM4 _ => .cw8
  | .modesetC0LsbM5 _ => .cw8
  | .modesetC0LsbM6 _ => .cw8
  | .modesetC0LsbM7 _ => .cw8
  | .modesetC0MsbM0 _ => .cw8
  | .modesetC0MsbM1 _ => .cw8
  | .modesetC0MsbM2 _ => .cw8
  | .modesetC0MsbM3 _ => .cw8
  | .modesetC0MsbM4 _ => .cw8
  | .modesetC0MsbM5 _ => .cw8
  | .modesetC0MsbM6 _ => .cw8
  | .modesetC0MsbM7 _ => .cw8
  | .modesetC0LsbmsbM0 _ => .cw8
  | .modesetC0LsbmsbM1 _ => .cw8
  | .modesetC0LsbmsbM2 _ => .cw8
  | .modesetC0LsbmsbM3 _ => .cw8
  | .modesetC0LsbmsbM4 _ => .cw8
  | .modesetC0LsbmsbM5 _ => .cw8
  | .modesetC0LsbmsbM6 _ => .cw8
  | .modesetC0LsbmsbM7 _ => .cw8
  | .modesetC1LsbM0 _ => .cw8
  | .modesetC1LsbM1 _ => .cw8
  | .modesetC1LsbM2 _ => .cw8
  | .modesetC1LsbM3 _ => .cw8
  | .modesetC1LsbM4 _ => .cw8
  | .modesetC1LsbM5 _ => .cw8
  | .modesetC1LsbM6 _ => .cw8
  | .modesetC1LsbM7 _ => .cw8
  | .modesetC1MsbM0 _ => .cw8
  | .modesetC1MsbM1 _ => .cw8
  | .modesetC1MsbM2 _ => .cw8
  | .modesetC1MsbM3 _ => .cw8
  | .modesetC1MsbM4 _ => .cw8
  | .modesetC1MsbM5 _ => .cw8
  | .modesetC1MsbM6 _ => .cw8
  | .modesetC1MsbM7 _ => .cw8
  | .modesetC1LsbmsbM0 _ => .cw8
  | .modesetC1LsbmsbM1 _ => .cw8
  | .modesetC1LsbmsbM2 _ => .cw8
  | .modesetC1LsbmsbM3 _ => .cw8
  | .modesetC1LsbmsbM4 _ => .cw8
  | .modesetC1LsbmsbM5 _ => .cw8
  | .modesetC1LsbmsbM6 _ => .cw8
  | .modesetC1LsbmsbM7 _ => .cw8
  | .modesetC2LsbM0 _ => .cw8
  | .modesetC2LsbM1 _ => .cw8
  | .modesetC2LsbM2 _ => .cw8
  | .modesetC2LsbM3 _ => .cw8
  | .modesetC2LsbM4 _ => .cw8
  | .modesetC2LsbM5 _ => .cw8
  | .modesetC2LsbM6 _ => .cw8
  | .modesetC2LsbM7 _ => .cw8
  | .modesetC2MsbM0 _ => .cw8
  | .modesetC2MsbM1 _ => .cw8
  | .modesetC2MsbM2 _ => .cw8
  | .modesetC2MsbM3 _ => .cw8
  | .modesetC2MsbM4 _ => .cw8
  | .modesetC2MsbM5 _ => .cw8
  | .modesetC2MsbM6 _ => .cw8
  | .modesetC2MsbM7 _ => .cw8
  | .modesetC2LsbmsbM0 _ => .cw8
  | .modesetC2LsbmsbM1 _ => .cw8
  | .modesetC2LsbmsbM2 _ => .cw8
  | .modesetC2LsbmsbM3 _ => .cw8
  | .modesetC2LsbmsbM4 _ => .cw8
  | .modesetC2LsbmsbM5 _ => .cw8
  | .modesetC2LsbmsbM6 _ => .cw8
  | .modesetC2LsbmsbM7 _ => .cw8
  | .readData0 => .bus3
  | .readData1 => .bus3
  | .readData2 => .bus3
  | .readCtrl => .bus3
  | .writeData0 _ => .bus3
  | .writeData1 _ => .bus3
  | .writeData2 _ => .bus3
  | .writeCtrl _ => .bus3
  | .setGate _ _ => .pin
  | .tick => .pin
  | .chTick _ => .pin
  | .reset => .pin
  | .loadCycle _ => .internal
  | .placeholderLoad _ => .internal
  | .countMode0 _ => .internal
  | .countMode1 _ => .internal
  | .countMode2 _ => .internal
  | .countMode3 _ => .internal
  | .countMode4 _ => .internal
  | .countMode5 _ => .internal
  | .completeLoad _ => .internal
  | .latchOp _ => .internal

/-- The operands of a MODESET row (R82): channel, access mode, mode field (bits 3:1, before the mapping of R66) and BCD
flag. None for every other operation. -/
def Instr.modesetOperands : Instr → Option (Channel × Access × ModeField × Bool)
  | .modesetC0LsbM0 d => some (.ch0, .lsb, .f0, d)
  | .modesetC0LsbM1 d => some (.ch0, .lsb, .f1, d)
  | .modesetC0LsbM2 d => some (.ch0, .lsb, .f2, d)
  | .modesetC0LsbM3 d => some (.ch0, .lsb, .f3, d)
  | .modesetC0LsbM4 d => some (.ch0, .lsb, .f4, d)
  | .modesetC0LsbM5 d => some (.ch0, .lsb, .f5, d)
  | .modesetC0LsbM6 d => some (.ch0, .lsb, .f6, d)
  | .modesetC0LsbM7 d => some (.ch0, .lsb, .f7, d)
  | .modesetC0MsbM0 d => some (.ch0, .msb, .f0, d)
  | .modesetC0MsbM1 d => some (.ch0, .msb, .f1, d)
  | .modesetC0MsbM2 d => some (.ch0, .msb, .f2, d)
  | .modesetC0MsbM3 d => some (.ch0, .msb, .f3, d)
  | .modesetC0MsbM4 d => some (.ch0, .msb, .f4, d)
  | .modesetC0MsbM5 d => some (.ch0, .msb, .f5, d)
  | .modesetC0MsbM6 d => some (.ch0, .msb, .f6, d)
  | .modesetC0MsbM7 d => some (.ch0, .msb, .f7, d)
  | .modesetC0LsbmsbM0 d => some (.ch0, .lsbMsb, .f0, d)
  | .modesetC0LsbmsbM1 d => some (.ch0, .lsbMsb, .f1, d)
  | .modesetC0LsbmsbM2 d => some (.ch0, .lsbMsb, .f2, d)
  | .modesetC0LsbmsbM3 d => some (.ch0, .lsbMsb, .f3, d)
  | .modesetC0LsbmsbM4 d => some (.ch0, .lsbMsb, .f4, d)
  | .modesetC0LsbmsbM5 d => some (.ch0, .lsbMsb, .f5, d)
  | .modesetC0LsbmsbM6 d => some (.ch0, .lsbMsb, .f6, d)
  | .modesetC0LsbmsbM7 d => some (.ch0, .lsbMsb, .f7, d)
  | .modesetC1LsbM0 d => some (.ch1, .lsb, .f0, d)
  | .modesetC1LsbM1 d => some (.ch1, .lsb, .f1, d)
  | .modesetC1LsbM2 d => some (.ch1, .lsb, .f2, d)
  | .modesetC1LsbM3 d => some (.ch1, .lsb, .f3, d)
  | .modesetC1LsbM4 d => some (.ch1, .lsb, .f4, d)
  | .modesetC1LsbM5 d => some (.ch1, .lsb, .f5, d)
  | .modesetC1LsbM6 d => some (.ch1, .lsb, .f6, d)
  | .modesetC1LsbM7 d => some (.ch1, .lsb, .f7, d)
  | .modesetC1MsbM0 d => some (.ch1, .msb, .f0, d)
  | .modesetC1MsbM1 d => some (.ch1, .msb, .f1, d)
  | .modesetC1MsbM2 d => some (.ch1, .msb, .f2, d)
  | .modesetC1MsbM3 d => some (.ch1, .msb, .f3, d)
  | .modesetC1MsbM4 d => some (.ch1, .msb, .f4, d)
  | .modesetC1MsbM5 d => some (.ch1, .msb, .f5, d)
  | .modesetC1MsbM6 d => some (.ch1, .msb, .f6, d)
  | .modesetC1MsbM7 d => some (.ch1, .msb, .f7, d)
  | .modesetC1LsbmsbM0 d => some (.ch1, .lsbMsb, .f0, d)
  | .modesetC1LsbmsbM1 d => some (.ch1, .lsbMsb, .f1, d)
  | .modesetC1LsbmsbM2 d => some (.ch1, .lsbMsb, .f2, d)
  | .modesetC1LsbmsbM3 d => some (.ch1, .lsbMsb, .f3, d)
  | .modesetC1LsbmsbM4 d => some (.ch1, .lsbMsb, .f4, d)
  | .modesetC1LsbmsbM5 d => some (.ch1, .lsbMsb, .f5, d)
  | .modesetC1LsbmsbM6 d => some (.ch1, .lsbMsb, .f6, d)
  | .modesetC1LsbmsbM7 d => some (.ch1, .lsbMsb, .f7, d)
  | .modesetC2LsbM0 d => some (.ch2, .lsb, .f0, d)
  | .modesetC2LsbM1 d => some (.ch2, .lsb, .f1, d)
  | .modesetC2LsbM2 d => some (.ch2, .lsb, .f2, d)
  | .modesetC2LsbM3 d => some (.ch2, .lsb, .f3, d)
  | .modesetC2LsbM4 d => some (.ch2, .lsb, .f4, d)
  | .modesetC2LsbM5 d => some (.ch2, .lsb, .f5, d)
  | .modesetC2LsbM6 d => some (.ch2, .lsb, .f6, d)
  | .modesetC2LsbM7 d => some (.ch2, .lsb, .f7, d)
  | .modesetC2MsbM0 d => some (.ch2, .msb, .f0, d)
  | .modesetC2MsbM1 d => some (.ch2, .msb, .f1, d)
  | .modesetC2MsbM2 d => some (.ch2, .msb, .f2, d)
  | .modesetC2MsbM3 d => some (.ch2, .msb, .f3, d)
  | .modesetC2MsbM4 d => some (.ch2, .msb, .f4, d)
  | .modesetC2MsbM5 d => some (.ch2, .msb, .f5, d)
  | .modesetC2MsbM6 d => some (.ch2, .msb, .f6, d)
  | .modesetC2MsbM7 d => some (.ch2, .msb, .f7, d)
  | .modesetC2LsbmsbM0 d => some (.ch2, .lsbMsb, .f0, d)
  | .modesetC2LsbmsbM1 d => some (.ch2, .lsbMsb, .f1, d)
  | .modesetC2LsbmsbM2 d => some (.ch2, .lsbMsb, .f2, d)
  | .modesetC2LsbmsbM3 d => some (.ch2, .lsbMsb, .f3, d)
  | .modesetC2LsbmsbM4 d => some (.ch2, .lsbMsb, .f4, d)
  | .modesetC2LsbmsbM5 d => some (.ch2, .lsbMsb, .f5, d)
  | .modesetC2LsbmsbM6 d => some (.ch2, .lsbMsb, .f6, d)
  | .modesetC2LsbmsbM7 d => some (.ch2, .lsbMsb, .f7, d)
  | .readbackEarly => none
  | .readbackLate => none
  | .latch0 => none
  | .latch1 => none
  | .latch2 => none
  | .readData0 => none
  | .readData1 => none
  | .readData2 => none
  | .readCtrl => none
  | .writeData0 _ => none
  | .writeData1 _ => none
  | .writeData2 _ => none
  | .writeCtrl _ => none
  | .setGate _ _ => none
  | .tick => none
  | .chTick _ => none
  | .reset => none
  | .loadCycle _ => none
  | .placeholderLoad _ => none
  | .countMode0 _ => none
  | .countMode1 _ => none
  | .countMode2 _ => none
  | .countMode3 _ => none
  | .countMode4 _ => none
  | .countMode5 _ => none
  | .completeLoad _ => none
  | .latchOp _ => none

end Sys2Proof
end

