-- ==== Sys2Proof/WellFormed.lean ====
section
/-!
DEFINITION. Which operations an environment can deliver to an instance of the block. Operand ranges need no check: a
channel is one of three, a level is one bit and a byte has eight bits by their types.
-/

namespace Sys2Proof

/-- The operation is an event of R42. The INTERNAL rows are not: the state of a channel selects them inside a tick, a
count write or a latch word, and they have no encoding (R73). -/
def Instr.deliverable (i : Instr) : Bool :=
  match i.format with
  | .cw8 | .bus3 | .pin => true
  | .internal => false

/-- The `condition` column of the two READBACK rows (R67). -/
def Instr.onVariant (v : Variant) : Instr → Bool
  | .readbackEarly => v == .early
  | .readbackLate => v == .late
  | _ => true

/-- A well-formed operation of an instance with variant `v`. -/
def Instr.wellFormed (v : Variant) (i : Instr) : Bool :=
  i.deliverable && i.onVariant v

end Sys2Proof
end

