-- ==== Sys2Proof/Decode.lean ====
section
/-!
DEFINITION. The decoder of control words and bus operation codes, total on every input (30_encoding.md rules R60 to
R70), and the encoder, written from the `match` column of the opcode table. No input is rejected: every one of the 256
control words and every one of the eight bus codes is an operation (R65, R70, R210).
-/

namespace Sys2Proof

/-- Bits 7:6 of a control word (R61). Value 3 addresses no channel: it is the read-back command. -/
def channelField (w : Byte) : Option Channel :=
  match w.getLsbD 7, w.getLsbD 6 with
  | false, false => some .ch0
  | false, true => some .ch1
  | true, false => some .ch2
  | true, true => none

/-- Bits 5:4 of a control word (R62). Value 0 is no access mode: it is the latch request. -/
def accessField (w : Byte) : Option Access :=
  match w.getLsbD 5, w.getLsbD 4 with
  | false, false => none
  | false, true => some .lsb
  | true, false => some .msb
  | true, true => some .lsbMsb

/-- Bits 3:1 of a control word (R63). -/
def modeField (w : Byte) : ModeField :=
  match w.getLsbD 3, w.getLsbD 2, w.getLsbD 1 with
  | false, false, false => .f0
  | false, false, true => .f1
  | false, true, false => .f2
  | false, true, true => .f3
  | true, false, false => .f4
  | true, false, true => .f5
  | true, true, false => .f6
  | true, true, true => .f7

/-- Bit 0 of a control word (R64). -/
def bcdField (w : Byte) : Bool :=
  w.getLsbD 0

/-- The LATCH row of a channel. -/
def latchInstr : Channel → Instr
  | .ch0 => .latch0
  | .ch1 => .latch1
  | .ch2 => .latch2

/-- The READBACK row of a variant (R67). -/
def readbackInstr : Variant → Instr
  | .early => .readbackEarly
  | .late => .readbackLate

/-- The MODESET row of a channel, an access mode and a mode field (R73). -/
def modesetInstr (c : Channel) (a : Access) (f : ModeField) (d : Bool) : Instr :=
  match c, a, f with
  | .ch0, .lsb, .f0 => .modesetC0LsbM0 d
  | .ch0, .lsb, .f1 => .modesetC0LsbM1 d
  | .ch0, .lsb, .f2 => .modesetC0LsbM2 d
  | .ch0, .lsb, .f3 => .modesetC0LsbM3 d
  | .ch0, .lsb, .f4 => .modesetC0LsbM4 d
  | .ch0, .lsb, .f5 => .modesetC0LsbM5 d
  | .ch0, .lsb, .f6 => .modesetC0LsbM6 d
  | .ch0, .lsb, .f7 => .modesetC0LsbM7 d
  | .ch0, .msb, .f0 => .modesetC0MsbM0 d
  | .ch0, .msb, .f1 => .modesetC0MsbM1 d
  | .ch0, .msb, .f2 => .modesetC0MsbM2 d
  | .ch0, .msb, .f3 => .modesetC0MsbM3 d
  | .ch0, .msb, .f4 => .modesetC0MsbM4 d
  | .ch0, .msb, .f5 => .modesetC0MsbM5 d
  | .ch0, .msb, .f6 => .modesetC0MsbM6 d
  | .ch0, .msb, .f7 => .modesetC0MsbM7 d
  | .ch0, .lsbMsb, .f0 => .modesetC0LsbmsbM0 d
  | .ch0, .lsbMsb, .f1 => .modesetC0LsbmsbM1 d
  | .ch0, .lsbMsb, .f2 => .modesetC0LsbmsbM2 d
  | .ch0, .lsbMsb, .f3 => .modesetC0LsbmsbM3 d
  | .ch0, .lsbMsb, .f4 => .modesetC0LsbmsbM4 d
  | .ch0, .lsbMsb, .f5 => .modesetC0LsbmsbM5 d
  | .ch0, .lsbMsb, .f6 => .modesetC0LsbmsbM6 d
  | .ch0, .lsbMsb, .f7 => .modesetC0LsbmsbM7 d
  | .ch1, .lsb, .f0 => .modesetC1LsbM0 d
  | .ch1, .lsb, .f1 => .modesetC1LsbM1 d
  | .ch1, .lsb, .f2 => .modesetC1LsbM2 d
  | .ch1, .lsb, .f3 => .modesetC1LsbM3 d
  | .ch1, .lsb, .f4 => .modesetC1LsbM4 d
  | .ch1, .lsb, .f5 => .modesetC1LsbM5 d
  | .ch1, .lsb, .f6 => .modesetC1LsbM6 d
  | .ch1, .lsb, .f7 => .modesetC1LsbM7 d
  | .ch1, .msb, .f0 => .modesetC1MsbM0 d
  | .ch1, .msb, .f1 => .modesetC1MsbM1 d
  | .ch1, .msb, .f2 => .modesetC1MsbM2 d
  | .ch1, .msb, .f3 => .modesetC1MsbM3 d
  | .ch1, .msb, .f4 => .modesetC1MsbM4 d
  | .ch1, .msb, .f5 => .modesetC1MsbM5 d
  | .ch1, .msb, .f6 => .modesetC1MsbM6 d
  | .ch1, .msb, .f7 => .modesetC1MsbM7 d
  | .ch1, .lsbMsb, .f0 => .modesetC1LsbmsbM0 d
  | .ch1, .lsbMsb, .f1 => .modesetC1LsbmsbM1 d
  | .ch1, .lsbMsb, .f2 => .modesetC1LsbmsbM2 d
  | .ch1, .lsbMsb, .f3 => .modesetC1LsbmsbM3 d
  | .ch1, .lsbMsb, .f4 => .modesetC1LsbmsbM4 d
  | .ch1, .lsbMsb, .f5 => .modesetC1LsbmsbM5 d
  | .ch1, .lsbMsb, .f6 => .modesetC1LsbmsbM6 d
  | .ch1, .lsbMsb, .f7 => .modesetC1LsbmsbM7 d
  | .ch2, .lsb, .f0 => .modesetC2LsbM0 d
  | .ch2, .lsb, .f1 => .modesetC2LsbM1 d
  | .ch2, .lsb, .f2 => .modesetC2LsbM2 d
  | .ch2, .lsb, .f3 => .modesetC2LsbM3 d
  | .ch2, .lsb, .f4 => .modesetC2LsbM4 d
  | .ch2, .lsb, .f5 => .modesetC2LsbM5 d
  | .ch2, .lsb, .f6 => .modesetC2LsbM6 d
  | .ch2, .lsb, .f7 => .modesetC2LsbM7 d
  | .ch2, .msb, .f0 => .modesetC2MsbM0 d
  | .ch2, .msb, .f1 => .modesetC2MsbM1 d
  | .ch2, .msb, .f2 => .modesetC2MsbM2 d
  | .ch2, .msb, .f3 => .modesetC2MsbM3 d
  | .ch2, .msb, .f4 => .modesetC2MsbM4 d
  | .ch2, .msb, .f5 => .modesetC2MsbM5 d
  | .ch2, .msb, .f6 => .modesetC2MsbM6 d
  | .ch2, .msb, .f7 => .modesetC2MsbM7 d
  | .ch2, .lsbMsb, .f0 => .modesetC2LsbmsbM0 d
  | .ch2, .lsbMsb, .f1 => .modesetC2LsbmsbM1 d
  | .ch2, .lsbMsb, .f2 => .modesetC2LsbmsbM2 d
  | .ch2, .lsbMsb, .f3 => .modesetC2LsbmsbM3 d
  | .ch2, .lsbMsb, .f4 => .modesetC2LsbmsbM4 d
  | .ch2, .lsbMsb, .f5 => .modesetC2LsbmsbM5 d
  | .ch2, .lsbMsb, .f6 => .modesetC2LsbmsbM6 d
  | .ch2, .lsbMsb, .f7 => .modesetC2LsbmsbM7 d

/-- The decode order of R65: channel field 3 first, then access field 0, then a mode set. -/
def decodeControl (v : Variant) (w : Byte) : Instr :=
  match channelField w with
  | none => readbackInstr v
  | some c =>
    match accessField w with
    | none => latchInstr c
    | some a => modesetInstr c a (modeField w) (bcdField w)

/-- The eight bus operation codes of R70, bit 2 the write bit and bits 1:0 the port. -/
def decodeBus (code : BitVec 3) (data : Byte) : Instr :=
  match code.getLsbD 2, code.getLsbD 1, code.getLsbD 0 with
  | false, false, false => .readData0
  | false, false, true => .readData1
  | false, true, false => .readData2
  | false, true, true => .readCtrl
  | true, false, false => .writeData0 data
  | true, false, true => .writeData1 data
  | true, true, false => .writeData2 data
  | true, true, true => .writeCtrl data

/-- The operation an input stands for. The variant matters for control words with channel field 3 only (R67). -/
def decode (v : Variant) : Input → Instr
  | .control w => decodeControl v w
  | .bus code data => decodeBus code data
  | .setGate c g => .setGate c g
  | .tick => .tick
  | .chTick c => .chTick c
  | .reset => .reset

/-- Bit 0 of a control word from the BCD flag (R64). -/
def bcdBit : Bool → Byte
  | false => 0x00
  | true => 0x01

/-- The input that stands for an operation: the `match` column of its row, with bit 0 from the BCD flag in a MODESET
word and the ignored bits written as 0 (R71). The INTERNAL operations have none (R73). -/
def encode : Instr → Option Input
  | .readbackEarly => some (.control 0xC0)
  | .readbackLate => some (.control 0xC0)
  | .latch0 => some (.control 0x00)
  | .latch1 => some (.control 0x40)
  | .latch2 => some (.control 0x80)
  | .modesetC0LsbM0 d => some (.control (0x10 ||| bcdBit d))
  | .modesetC0LsbM1 d => some (.control (0x12 ||| bcdBit d))
  | .modesetC0LsbM2 d => some (.control (0x14 ||| bcdBit d))
  | .modesetC0LsbM3 d => some (.control (0x16 ||| bcdBit d))
  | .modesetC0LsbM4 d => some (.control (0x18 ||| bcdBit d))
  | .modesetC0LsbM5 d => some (.control (0x1A ||| bcdBit d))
  | .modesetC0LsbM6 d => some (.control (0x1C ||| bcdBit d))
  | .modesetC0LsbM7 d => some (.control (0x1E ||| bcdBit d))
  | .modesetC0MsbM0 d => some (.control (0x20 ||| bcdBit d))
  | .modesetC0MsbM1 d => some (.control (0x22 ||| bcdBit d))
  | .modesetC0MsbM2 d => some (.control (0x24 ||| bcdBit d))
  | .modesetC0MsbM3 d => some (.control (0x26 ||| bcdBit d))
  | .modesetC0MsbM4 d => some (.control (0x28 ||| bcdBit d))
  | .modesetC0MsbM5 d => some (.control (0x2A ||| bcdBit d))
  | .modesetC0MsbM6 d => some (.control (0x2C ||| bcdBit d))
  | .modesetC0MsbM7 d => some (.control (0x2E ||| bcdBit d))
  | .modesetC0LsbmsbM0 d => some (.control (0x30 ||| bcdBit d))
  | .modesetC0LsbmsbM1 d => some (.control (0x32 ||| bcdBit d))
  | .modesetC0LsbmsbM2 d => some (.control (0x34 ||| bcdBit d))
  | .modesetC0LsbmsbM3 d => some (.control (0x36 ||| bcdBit d))
  | .modesetC0LsbmsbM4 d => some (.control (0x38 ||| bcdBit d))
  | .modesetC0LsbmsbM5 d => some (.control (0x3A ||| bcdBit d))
  | .modesetC0LsbmsbM6 d => some (.control (0x3C ||| bcdBit d))
  | .modesetC0LsbmsbM7 d => some (.control (0x3E ||| bcdBit d))
  | .modesetC1LsbM0 d => some (.control (0x50 ||| bcdBit d))
  | .modesetC1LsbM1 d => some (.control (0x52 ||| bcdBit d))
  | .modesetC1LsbM2 d => some (.control (0x54 ||| bcdBit d))
  | .modesetC1LsbM3 d => some (.control (0x56 ||| bcdBit d))
  | .modesetC1LsbM4 d => some (.control (0x58 ||| bcdBit d))
  | .modesetC1LsbM5 d => some (.control (0x5A ||| bcdBit d))
  | .modesetC1LsbM6 d => some (.control (0x5C ||| bcdBit d))
  | .modesetC1LsbM7 d => some (.control (0x5E ||| bcdBit d))
  | .modesetC1MsbM0 d => some (.control (0x60 ||| bcdBit d))
  | .modesetC1MsbM1 d => some (.control (0x62 ||| bcdBit d))
  | .modesetC1MsbM2 d => some (.control (0x64 ||| bcdBit d))
  | .modesetC1MsbM3 d => some (.control (0x66 ||| bcdBit d))
  | .modesetC1MsbM4 d => some (.control (0x68 ||| bcdBit d))
  | .modesetC1MsbM5 d => some (.control (0x6A ||| bcdBit d))
  | .modesetC1MsbM6 d => some (.control (0x6C ||| bcdBit d))
  | .modesetC1MsbM7 d => some (.control (0x6E ||| bcdBit d))
  | .modesetC1LsbmsbM0 d => some (.control (0x70 ||| bcdBit d))
  | .modesetC1LsbmsbM1 d => some (.control (0x72 ||| bcdBit d))
  | .modesetC1LsbmsbM2 d => some (.control (0x74 ||| bcdBit d))
  | .modesetC1LsbmsbM3 d => some (.control (0x76 ||| bcdBit d))
  | .modesetC1LsbmsbM4 d => some (.control (0x78 ||| bcdBit d))
  | .modesetC1LsbmsbM5 d => some (.control (0x7A ||| bcdBit d))
  | .modesetC1LsbmsbM6 d => some (.control (0x7C ||| bcdBit d))
  | .modesetC1LsbmsbM7 d => some (.control (0x7E ||| bcdBit d))
  | .modesetC2LsbM0 d => some (.control (0x90 ||| bcdBit d))
  | .modesetC2LsbM1 d => some (.control (0x92 ||| bcdBit d))
  | .modesetC2LsbM2 d => some (.control (0x94 ||| bcdBit d))
  | .modesetC2LsbM3 d => some (.control (0x96 ||| bcdBit d))
  | .modesetC2LsbM4 d => some (.control (0x98 ||| bcdBit d))
  | .modesetC2LsbM5 d => some (.control (0x9A ||| bcdBit d))
  | .modesetC2LsbM6 d => some (.control (0x9C ||| bcdBit d))
  | .modesetC2LsbM7 d => some (.control (0x9E ||| bcdBit d))
  | .modesetC2MsbM0 d => some (.control (0xA0 ||| bcdBit d))
  | .modesetC2MsbM1 d => some (.control (0xA2 ||| bcdBit d))
  | .modesetC2MsbM2 d => some (.control (0xA4 ||| bcdBit d))
  | .modesetC2MsbM3 d => some (.control (0xA6 ||| bcdBit d))
  | .modesetC2MsbM4 d => some (.control (0xA8 ||| bcdBit d))
  | .modesetC2MsbM5 d => some (.control (0xAA ||| bcdBit d))
  | .modesetC2MsbM6 d => some (.control (0xAC ||| bcdBit d))
  | .modesetC2MsbM7 d => some (.control (0xAE ||| bcdBit d))
  | .modesetC2LsbmsbM0 d => some (.control (0xB0 ||| bcdBit d))
  | .modesetC2LsbmsbM1 d => some (.control (0xB2 ||| bcdBit d))
  | .modesetC2LsbmsbM2 d => some (.control (0xB4 ||| bcdBit d))
  | .modesetC2LsbmsbM3 d => some (.control (0xB6 ||| bcdBit d))
  | .modesetC2LsbmsbM4 d => some (.control (0xB8 ||| bcdBit d))
  | .modesetC2LsbmsbM5 d => some (.control (0xBA ||| bcdBit d))
  | .modesetC2LsbmsbM6 d => some (.control (0xBC ||| bcdBit d))
  | .modesetC2LsbmsbM7 d => some (.control (0xBE ||| bcdBit d))
  | .readData0 => some (.bus 0b000 0)
  | .readData1 => some (.bus 0b001 0)
  | .readData2 => some (.bus 0b010 0)
  | .readCtrl => some (.bus 0b011 0)
  | .writeData0 b => some (.bus 0b100 b)
  | .writeData1 b => some (.bus 0b101 b)
  | .writeData2 b => some (.bus 0b110 b)
  | .writeCtrl b => some (.bus 0b111 b)
  | .setGate c g => some (.setGate c g)
  | .tick => some .tick
  | .chTick c => some (.chTick c)
  | .reset => some .reset
  | .loadCycle _ => none
  | .placeholderLoad _ => none
  | .countMode0 _ => none
  | .countMode1 _ => none
  | .countMode2 _ => none
  | .countMode3 _ => none
  | .countMode4 _ => none
  | .countMode5 _ => none
  | .completeLoad _ => none
  | .latchOp _ => none

/-- DESIGN CHOICE (assumption log 5): which input a word of the opcode table stands for. The table numbers control words
(8 bits) and bus codes (3 bits) separately, so the two overlap once both are written in a whole byte. A word of three
bits or fewer is a bus code with data byte 0. A word of a byte is a control word, except that 0x01 to 0x07, which no
CW8 row has as its `match` (they are spellings of LATCH0 with ignored bits set), are read as the bus codes 1 to 7. This
serves `decodeTableWord` and `withFetchWord` only: `decodeControl` reads 0x01 to 0x07 as LATCH0. -/
def tableInput (nbits w : Nat) : Option Input :=
  if nbits = 0 then none
  else if nbits ≤ 3 then
    if w < 2 ^ nbits then some (.bus (BitVec.ofNat 3 w) 0) else none
  else if nbits = 8 then
    if w = 0 then some (.control 0)
    else if w < 8 then some (.bus (BitVec.ofNat 3 w) 0)
    else if w < 256 then some (.control (BitVec.ofNat 8 w))
    else none
  else none

/-- The operation the decoder reads from a word of the opcode table, on the variant of `State.reset`. -/
def decodeTableWord (nbits w : Nat) : Option Instr :=
  (tableInput nbits w).map (decode Config.resetParams.variant)

end Sys2Proof
end

