-- ==== Sys2Proof/Machine/Decrement.lean ====
section
/-!
DEFINITION. The decrement primitive `dec` and its iterations `dec_k` (44_tick.md rules R166, R169).
-/

namespace Sys2Proof.Machine

/-- Digit `k` of a counter value: bits `4k+3 : 4k` (R69). -/
def digit (k : Nat) (v : Count) : BitVec 4 := v.extractLsb' (4 * k) 4

/-- The counter value with the given thousands, hundreds, tens and ones digits (R69). -/
def packDigits (n3 n2 n1 n0 : BitVec 4) : Count := n3 ++ n2 ++ n1 ++ n0

/-- The BCD branch of `dec` (R166, 92_eei_decisions.md D17): a zero digit becomes 9 and borrows, any other digit, decimal
or not, is reduced by one and ends the borrow. -/
def decBcd (v : Count) : Count :=
  let n0 := digit 0 v
  let n1 := digit 1 v
  let n2 := digit 2 v
  let n3 := digit 3 v
  if n0 ≠ 0 then packDigits n3 n2 n1 (n0 - 1)
  else if n1 ≠ 0 then packDigits n3 n2 (n1 - 1) 9
  else if n2 ≠ 0 then packDigits n3 (n2 - 1) 9 9
  else if n3 ≠ 0 then packDigits (n3 - 1) 9 9 9
  else packDigits 9 9 9 9

/-- `dec(v, bcd)` (R166): in binary, subtraction of one modulo 65536. -/
def dec (v : Count) (bcd : Bool) : Count :=
  if bcd then decBcd v else v - 1

/-- `dec_k(v, bcd)` (R169): `dec` applied `k` times (92_eei_decisions.md D13). -/
def decK : Nat → Count → Bool → Count
  | 0, v, _ => v
  | k + 1, v, bcd => decK k (dec v bcd) bcd

end Sys2Proof.Machine
end

