-- ==== Sys2Proof/Machine/Flags.lean ====
section
/-!
DEFINITION. The values the spec computes for the output pin and the load mask from the mode and the variant
(40_control_word.md rules R84, R85; 44_tick.md rule R162), and the terminal tests of the modes (45_modes.md).
-/

namespace Sys2Proof.Machine

/-- `LOADMASK(VARIANT, m)` (R84, R18). -/
def loadMaskOf : Variant → Mode → Count
  | .late, .mode3 => 0xFFFE
  | .late, .mode0 | .late, .mode1 | .late, .mode2 | .late, .mode4 | .late, .mode5 => 0xFFFF
  | .early, _ => 0xFFFF

/-- `POWERON_LEVEL(m)` (R85). -/
def powerOnLevel : Mode → Level
  | .mode0 => .low
  | .mode1 | .mode2 | .mode3 | .mode4 | .mode5 => .high

/-- `POST_RELOAD_LEVEL(m)`: the table of R162 (92_eei_decisions.md D11). -/
def postReloadLevel : Mode → Level
  | .mode0 | .mode1 => .low
  | .mode2 | .mode3 | .mode4 | .mode5 => .high

/-- `!out` of R190 to R192. -/
def toggle : Level → Level
  | .low => .high
  | .high => .low

/-- The terminal test of modes 0, 1, 3, 4 and 5: all 16 bits are zero (R168). -/
def atZero (ce : Count) : Bool := ce == 0x0000

/-- The terminal test of mode 2 (R187). -/
def atOne (ce : Count) : Bool := ce == 0x0001

/-- Bit 0 of a counter register: the parity test of mode 3 (R190, R191). -/
def isOdd (v : Count) : Bool := v.getLsbD 0

end Sys2Proof.Machine
end

