-- ==== Sys2Proof/Machine/State.lean ====
section
/-!
DEFINITION. The state of the block: three channel records with the sixteen fields of 10_state.md rules R11 to R26, and
the model's own fields (the parameters, the events not yet taken, the byte last returned).
-/

namespace Sys2Proof.Machine

/-- `load_phase` (R22). -/
inductive LoadPhase where
  | initial | subsequent
deriving DecidableEq, Repr

/-- The two values of `load_state` (R23) and of `read_state` (R25). -/
inductive ByteState where
  | firstByte | secondByte
deriving DecidableEq, Repr

/-- `counting_state` (R26). No rule enters `countingTriggered`. -/
inductive CountingState where
  | waitingForReload
  | waitingForLoadTrigger
  | waitingForLoadCycle
  | counting
  | countingTriggered
  | waitingForGate
deriving DecidableEq, Repr

/-- One channel record (R10). -/
structure Chan where
  /-- CR, R11. -/
  countRegister   : Count
  /-- CE, R12. -/
  countingElement : Count
  /-- OL, R13. -/
  countLatch      : Count
  /-- R14. -/
  latched         : Bool
  /-- R15. -/
  mode            : Mode
  /-- R16. -/
  access          : Access
  /-- R17. -/
  bcd             : Bool
  /-- R18. -/
  loadMask        : Count
  /-- R19: the level of pin OUTc. -/
  output          : Level
  /-- R20. -/
  gate            : Level
  /-- R21. -/
  armed           : Bool
  /-- R22. -/
  loadPhase       : LoadPhase
  /-- R23. -/
  loadState       : ByteState
  /-- R24. -/
  ceUndefined     : Bool
  /-- R25. -/
  readState       : ByteState
  /-- R26. -/
  countingState   : CountingState
deriving DecidableEq, Repr

/-- The whole state: the three channels are the spec's (R10); the other three fields are the model's own. -/
structure State where
  /-- The parameters of this instance (R5). They are not state of the block: no step changes them. They stand here so
  that every statement quantifies over them (assumption log 1). -/
  params  : Params
  ch0     : Chan
  ch1     : Chan
  ch2     : Chan
  /-- The events the environment delivers, in their order (R40, R50); a step takes the first (assumption log 4). -/
  inputs  : List Input
  /-- The byte the last `READ_DATA` returned, none before the first (R8, R42; assumption log 6). -/
  dataOut : Option Byte
deriving DecidableEq, Repr

/-- Why the machine stops with a fault. There is none: the block raises no exception, fault, trap or error of any kind,
and every input is accepted (R210). -/
inductive Fault where
deriving DecidableEq, Repr

/-- Why an operation is refused (R212). A refusal is not an event of the hardware: it marks where the sources end. -/
inductive Refusal where
  /-- The operation has no meaning yet. No arm of `exec` answers with it. Safe. -/
  | notModelled (mnemonic : String)
  /-- Raised by READBACK_LATE, by WRITE_CTRL with channel field 3 on `Late` and by READBACK_EARLY on a `Late` instance:
  the read-back command, which no source describes (R88). Safe: nothing can be proved of a state after it. -/
  | readbackUndescribed
  /-- Raised by READ_CTRL: a bus read of port 3, which has no meaning in any source (R44). Safe: nothing can be proved of
  a state after it. -/
  | controlPortRead
deriving DecidableEq, Repr

/-- What one operation or one step answers. -/
abbrev Outcome := Host.Outcome State Fault Refusal

/-- A channel of a freshly created instance (R232): the values R230 writes out, and the gate at `GATE_INIT[c]`. -/
def Chan.create (v : Variant) (p : ChannelParams) : Chan where
  countRegister   := 0x0000
  countingElement := 0x0000
  countLatch      := 0x0000
  latched         := false
  mode            := p.resetMode
  access          := p.resetAccess
  bcd             := p.resetBcd
  loadMask        := loadMaskOf v p.resetMode
  output          := powerOnLevel p.resetMode
  gate            := p.gateInit
  armed           := false
  loadPhase       := .initial
  loadState       := .firstByte
  ceUndefined     := false
  readState       := .firstByte
  countingState   := .waitingForReload

/-- A freshly created instance with parameters `p` (R232), to which no event has been delivered. -/
def State.create (p : Params) : State where
  params  := p
  ch0     := Chan.create p.variant p.channel0
  ch1     := Chan.create p.variant p.channel1
  ch2     := Chan.create p.variant p.channel2
  inputs  := []
  dataOut := none

/-- The machine right after reset: the instance with the parameters of `Config.resetParams` (assumption log 1 to 3). -/
def State.reset : State := State.create Config.resetParams

end Sys2Proof.Machine
end

