-- ==== Sys2Proof/Machine/Modes.lean ====
section
/-!
DEFINITION. The counting rules of the six modes on one channel (45_modes.md rules R180 to R200), with the reload they
share with the load cycle (44_tick.md rule R163).
-/

namespace Sys2Proof.Machine

/-- `reload(c)` (R163). -/
def Chan.reload (ch : Chan) : Chan :=
  { ch with countingElement := ch.countRegister &&& ch.loadMask }

/-- The decrement of a counting tick: `CE <- dec_k(CE, b)` (R180). -/
def Chan.decBy (k : Nat) (ch : Chan) : Chan :=
  { ch with countingElement := decK k ch.countingElement ch.bcd }

/-- Mode 3's terminal count: toggle the output and reload in the same tick (R190; 92_eei_decisions.md D13). -/
def Chan.toggleReload (ch : Chan) : Chan :=
  { ch.reload with output := toggle ch.output }

/-- Mode 0 (R181): gated; the counter goes on past zero (92_eei_decisions.md D12). -/
def Chan.countMode0 (ch : Chan) : Chan :=
  match ch.gate with
  | .low => ch
  | .high =>
    let ch' := ch.decBy 1
    if atZero ch'.countingElement then { ch' with output := .high } else ch'

/-- Mode 1 (R184): not gated (90_conflicts.md C1). -/
def Chan.countMode1 (ch : Chan) : Chan :=
  let ch' := ch.decBy 1
  if atZero ch'.countingElement && ch'.armed then { ch' with output := .high } else ch'

/-- Mode 2 (R187): gated; at one, the low pulse and the automatic reload through a load cycle. -/
def Chan.countMode2 (ch : Chan) : Chan :=
  match ch.gate with
  | .low => ch
  | .high =>
    let ch' := ch.decBy 1
    if atOne ch'.countingElement then
      { ch' with output := .low, countingState := .waitingForLoadCycle }
    else ch'

/-- `mode3_even` (R190). -/
def Chan.mode3Even (ch : Chan) : Chan :=
  let ch' := ch.decBy 2
  if atZero ch'.countingElement then ch'.toggleReload else ch'

/-- The step of the odd rule on `Early` (R191, 92_eei_decisions.md D15): from an odd counter one with the output HIGH and
three with it LOW, from an even counter two. -/
def Chan.earlyStep (ch : Chan) : Nat :=
  if isOdd ch.countingElement then
    match ch.output with
    | .high => 1
    | .low => 3
  else 2

/-- `mode3_odd_early` (R191). -/
def Chan.mode3OddEarly (ch : Chan) : Chan :=
  let ch' := ch.decBy ch.earlyStep
  if atZero ch'.countingElement then ch'.toggleReload else ch'

/-- `mode3_odd_late` (R192, 92_eei_decisions.md D14): with the output HIGH the toggle and the reload come one tick after
the counter reached zero. -/
def Chan.mode3OddLate (ch : Chan) : Chan :=
  match ch.output with
  | .high => if atZero ch.countingElement then ch.toggleReload else ch.decBy 2
  | .low =>
    let ch' := ch.decBy 2
    if atZero ch'.countingElement then ch'.toggleReload else ch'

/-- Mode 3 (R193): gated; the parity is bit 0 of `count_register`, read at each tick. -/
def Chan.countMode3 (v : Variant) (ch : Chan) : Chan :=
  match ch.gate with
  | .low => ch
  | .high =>
    if isOdd ch.countRegister then
      match v with
      | .late => ch.mode3OddLate
      | .early => ch.mode3OddEarly
    else ch.mode3Even

/-- The strobe rule of modes 4 and 5 (R198, R200): LOW for exactly the tick on which the counter reaches zero. -/
def Chan.strobe (ch : Chan) : Chan :=
  let ch' := ch.decBy 1
  if atZero ch'.countingElement then { ch' with output := .low } else { ch' with output := .high }

/-- Mode 4 (R198): gated. -/
def Chan.countMode4 (ch : Chan) : Chan :=
  match ch.gate with
  | .low => ch
  | .high => ch.strobe

/-- Mode 5 (R200): not gated. -/
def Chan.countMode5 (ch : Chan) : Chan := ch.strobe

/-- `mode_rule(c)` (R170). -/
def Chan.modeRule (v : Variant) (ch : Chan) : Chan :=
  match ch.mode with
  | .mode0 => ch.countMode0
  | .mode1 => ch.countMode1
  | .mode2 => ch.countMode2
  | .mode3 => ch.countMode3 v
  | .mode4 => ch.countMode4
  | .mode5 => ch.countMode5

end Sys2Proof.Machine
end

