-- ==== Sys2Proof/Machine/Operands.lean ====
section
/-!
DEFINITION. The operands of the operations: the mapping of the mode field, the two bytes of a 16-bit register and the
source of a read (30_encoding.md rules R66, R69; 42_count_read.md rule R122).
-/

namespace Sys2Proof.Machine

/-- `map` of R66: the mode field values 6 and 7 are modes 2 and 3 (92_eei_decisions.md D4). -/
def mapMode : ModeField → Mode
  | .f0 => .mode0
  | .f1 => .mode1
  | .f2 => .mode2
  | .f3 => .mode3
  | .f4 => .mode4
  | .f5 => .mode5
  | .f6 => .mode2
  | .f7 => .mode3

/-- Bits 7:0 of a register. -/
def lowByte (v : Count) : Byte := v.extractLsb' 0 8

/-- Bits 15:8 of a register. -/
def highByte (v : Count) : Byte := v.extractLsb' 8 8

/-- A register with bits 7:0 replaced and bits 15:8 kept (R101, R103). -/
def withLowByte (v : Count) (b : Byte) : Count := highByte v ++ b

/-- A register with bits 15:8 replaced and bits 7:0 kept (R102, R103). -/
def withHighByte (v : Count) (b : Byte) : Count := b ++ lowByte v

/-- The source of a read byte (R122): the snapshot while there is one, else the live counter. -/
def Chan.readSource (ch : Chan) : Count :=
  if ch.latched then ch.countLatch else ch.countingElement

end Sys2Proof.Machine
end

