-- ==== Sys2Proof/Machine/Ops.lean ====
section
/-!
DEFINITION. The operations that the meanings share: on one channel record (mode set, latch, count read, count load,
gate edges, tick, reset) and on the state (one channel at a time). The block takes no exception (60_exceptions.md rules
R210, R216), so there is no exception entry and no return from one.
-/

namespace Sys2Proof.Machine

/-! Access to the channel records. -/

/-- `ch[c]` (R9). -/
def State.chan (s : State) : Channel → Chan
  | .ch0 => s.ch0
  | .ch1 => s.ch1
  | .ch2 => s.ch2

/-- `ch[c] <- ch` (R9). -/
def State.setChan (s : State) (c : Channel) (ch : Chan) : State :=
  match c with
  | .ch0 => { s with ch0 := ch }
  | .ch1 => { s with ch1 := ch }
  | .ch2 => { s with ch2 := ch }

/-- An operation on channel `c` alone (R52). -/
def State.update (s : State) (c : Channel) (f : Chan → Chan) : State :=
  s.setChan c (f (s.chan c))

/-! The control word (40_control_word.md). -/

/-- The effect of a mode set (R83), with the additions of 92_eei_decisions.md D7. -/
def Chan.modeSet (v : Variant) (a : Access) (m : Mode) (d : Bool) (ch : Chan) : Chan :=
  { ch with
    access          := a
    mode            := m
    bcd             := d
    countingElement := 0x0000
    countRegister   := 0x0000
    latched         := false
    armed           := false
    ceUndefined     := false
    loadMask        := loadMaskOf v m
    output          := powerOnLevel m
    countingState   := .waitingForReload
    loadState       := .firstByte
    loadPhase       := .initial
    readState       := .firstByte }

/-- `latch(c)` (R121): the first latch wins until it is read. -/
def Chan.latch (ch : Chan) : Chan :=
  if ch.latched then ch
  else { ch with countLatch := ch.countingElement, latched := true }

/-- `LATCH(c)` (R81). -/
def State.latchCommand (s : State) (c : Channel) : State :=
  s.update c Chan.latch

/-- `MODESET(c, a, map(f), d)` (R82, R66). -/
def State.modeSetCommand (s : State) (c : Channel) (a : Access) (f : ModeField) (d : Bool) : State :=
  s.update c (Chan.modeSet s.params.variant a (mapMode f) d)

/-- `READBACK(b)` (R87, R88). -/
def State.readbackCommand (s : State) : Outcome :=
  match s.params.variant with
  | .early => .next s
  | .late => .refused .readbackUndescribed

/-- `WRITE_CTRL(b)` (R80). -/
def State.writeControl (s : State) (b : Byte) : Outcome :=
  match channelField b with
  | none => s.readbackCommand
  | some c =>
    match accessField b with
    | none => .next (s.latchCommand c)
    | some a => .next (s.modeSetCommand c a (modeField b) (bcdField b))

/-! The count read (42_count_read.md). -/

/-- The byte a read returns (R124). -/
def Chan.readByte (ch : Chan) : Byte :=
  match ch.access, ch.readState with
  | .lsb, _ => lowByte ch.readSource
  | .msb, _ => highByte ch.readSource
  | .lsbMsb, .firstByte => lowByte ch.readSource
  | .lsbMsb, .secondByte => highByte ch.readSource

/-- The channel after a read (R124): the last byte of the access mode releases the snapshot (R123). -/
def Chan.afterRead (ch : Chan) : Chan :=
  match ch.access, ch.readState with
  | .lsb, _ => { ch with latched := false }
  | .msb, _ => { ch with latched := false }
  | .lsbMsb, .firstByte => { ch with readState := .secondByte }
  | .lsbMsb, .secondByte => { ch with readState := .firstByte, latched := false }

/-- `READ_DATA(c)` (R124). -/
def State.readData (s : State) (c : Channel) : State :=
  { s.update c Chan.afterRead with dataOut := some (s.chan c).readByte }

/-! The count load (41_count_load.md). -/

/-- `first_load(c)` (R105). -/
def Chan.firstLoad (ch : Chan) : Chan :=
  match ch.mode with
  | .mode1 | .mode5 =>
    { ch with armed := true, loadPhase := .subsequent, countingState := .waitingForLoadTrigger }
  | .mode0 | .mode2 | .mode3 | .mode4 =>
    { ch with armed := true, loadPhase := .subsequent, countingState := .waitingForLoadCycle }

/-- `subsequent_load(c)` (R106). -/
def Chan.subsequentLoad (ch : Chan) : Chan :=
  match ch.mode with
  | .mode0 | .mode4 => { ch with countingState := .waitingForLoadCycle }
  | .mode1 | .mode2 | .mode3 | .mode5 => ch

/-- `complete_load(c)` (R104). -/
def Chan.completeLoad (ch : Chan) : Chan :=
  match ch.loadPhase with
  | .initial => ch.firstLoad
  | .subsequent => ch.subsequentLoad

/-- `write_lsb_only(c, b)` (R101). -/
def Chan.writeLsbOnly (b : Byte) (ch : Chan) : Chan :=
  Chan.completeLoad { ch with countRegister := withLowByte ch.countRegister b }

/-- `write_msb_only(c, b)` (R102). -/
def Chan.writeMsbOnly (b : Byte) (ch : Chan) : Chan :=
  Chan.completeLoad { ch with countRegister := withHighByte ch.countRegister b }

/-- The first byte of a two-byte load (R103): in mode 0 it forces the output LOW and stops the count. -/
def Chan.writeFirstByte (b : Byte) (ch : Chan) : Chan :=
  match ch.mode with
  | .mode0 =>
    { ch with countRegister := withLowByte ch.countRegister b, output := .low,
              countingState := .waitingForReload, loadState := .secondByte }
  | .mode1 | .mode2 | .mode3 | .mode4 | .mode5 =>
    { ch with countRegister := withLowByte ch.countRegister b, loadState := .secondByte }

/-- The second byte of a two-byte load (R103). -/
def Chan.writeSecondByte (b : Byte) (ch : Chan) : Chan :=
  Chan.completeLoad
    { ch with countRegister := withHighByte ch.countRegister b, loadState := .firstByte }

/-- `write_two_byte(c, b)` (R103). -/
def Chan.writeTwoByte (b : Byte) (ch : Chan) : Chan :=
  match ch.loadState with
  | .firstByte => ch.writeFirstByte b
  | .secondByte => ch.writeSecondByte b

/-- `WRITE_DATA(c, b)` on its channel (R100). -/
def Chan.writeByte (b : Byte) (ch : Chan) : Chan :=
  match ch.access with
  | .lsb => ch.writeLsbOnly b
  | .msb => ch.writeMsbOnly b
  | .lsbMsb => ch.writeTwoByte b

/-- `WRITE_DATA(c, b)` (R100). -/
def State.writeData (s : State) (c : Channel) (b : Byte) : State :=
  s.update c (Chan.writeByte b)

/-! The gate (43_gate.md). -/

/-- `rising_edge(c)` (R143). -/
def Chan.risingEdge (ch : Chan) : Chan :=
  match ch.mode with
  | .mode1 | .mode2 | .mode3 | .mode5 => { ch with countingState := .waitingForLoadCycle }
  | .mode0 | .mode4 => ch

/-- `falling_edge(c)` (R144; mode 4: R145). -/
def Chan.fallingEdge (ch : Chan) : Chan :=
  match ch.mode with
  | .mode2 | .mode3 => { ch with countingState := .waitingForGate, output := .high }
  | .mode0 | .mode1 | .mode4 | .mode5 => ch

/-- The side effect of a gate change from `old` to `g` (R141). -/
def Chan.gateEdge (old g : Level) (ch : Chan) : Chan :=
  match ch.countingState with
  | .waitingForReload => ch
  | .waitingForLoadTrigger | .waitingForLoadCycle | .counting | .countingTriggered | .waitingForGate =>
    match old, g with
    | .low, .high => ch.risingEdge
    | .high, .low => ch.fallingEdge
    | .low, .low => ch
    | .high, .high => ch

/-- `SET_GATE(c, g)` on its channel (R141). -/
def Chan.setGate (g : Level) (ch : Chan) : Chan :=
  Chan.gateEdge ch.gate g { ch with gate := g }

/-! The tick (44_tick.md). -/

/-- `load_cycle(c)` (R162). -/
def Chan.loadCycle (ch : Chan) : Chan :=
  { ch.reload with
    countingState := .counting
    output        := postReloadLevel ch.mode
    ceUndefined   := false }

/-- `placeholder_load(c)` (R164). -/
def Chan.placeholderLoad (placeholder : Count) (ch : Chan) : Chan :=
  { ch with countingElement := placeholder, ceUndefined := true }

/-- `CH_TICK(c)` on its channel (R161): at most one of load cycle, placeholder load and mode rule. -/
def Chan.tick (p : Params) (ch : Chan) : Chan :=
  match ch.countingState with
  | .waitingForLoadCycle => ch.loadCycle
  | .waitingForLoadTrigger =>
    if ch.armed && !ch.ceUndefined then ch.placeholderLoad p.placeholder else ch.modeRule p.variant
  | .counting => ch.modeRule p.variant
  | .countingTriggered => ch.modeRule p.variant
  | .waitingForReload => ch
  | .waitingForGate => ch

/-- `CH_TICK(c)` (R161). -/
def State.chTick (s : State) (c : Channel) : State :=
  s.update c (Chan.tick s.params)

/-- `TICK` (R160): the three channels in index order. -/
def State.tickAll (s : State) : State :=
  ((s.chTick .ch0).chTick .ch1).chTick .ch2

/-! Reset (70_reset_and_hazards.md). -/

/-- `RESET` on one channel (R230): a mode set with the reset parameters, and `count_latch` cleared. -/
def Chan.resetWith (v : Variant) (p : ChannelParams) (ch : Chan) : Chan :=
  { ch.modeSet v p.resetAccess p.resetMode p.resetBcd with countLatch := 0x0000 }

/-- `RESET` on channel `c`. -/
def State.resetChannel (s : State) (c : Channel) : State :=
  s.update c (Chan.resetWith s.params.variant (s.params.channel c))

/-- `RESET` (R230). -/
def State.resetAll (s : State) : State :=
  ((s.resetChannel .ch0).resetChannel .ch1).resetChannel .ch2

end Sys2Proof.Machine
end

