-- ==== Sys2Proof/Machine/BusAccess.lean ====
section
/-!
DEFINITION. The meanings of the bus accesses (format BUS3): reads and writes of the four ports (20_memory.md rule R43,
41_count_load.md, 42_count_read.md).
-/

namespace Sys2Proof.Machine

/-- READ_DATA0 (R124). -/
def execReadData0 (s : State) : Outcome := .next (s.readData .ch0)

/-- READ_DATA1 (R124). -/
def execReadData1 (s : State) : Outcome := .next (s.readData .ch1)

/-- READ_DATA2 (R124). -/
def execReadData2 (s : State) : Outcome := .next (s.readData .ch2)

/-- READ_CTRL (R44, 93_implementation_defined.md U3): no source gives a bus read of port 3 a result, and the spec has the
model refuse it. -/
def execReadCtrl (_ : State) : Outcome :=
  .refused .controlPortRead

/-- WRITE_DATA0 (R100). -/
def execWriteData0 (b : Byte) (s : State) : Outcome := .next (s.writeData .ch0 b)

/-- WRITE_DATA1 (R100). -/
def execWriteData1 (b : Byte) (s : State) : Outcome := .next (s.writeData .ch1 b)

/-- WRITE_DATA2 (R100). -/
def execWriteData2 (b : Byte) (s : State) : Outcome := .next (s.writeData .ch2 b)

/-- WRITE_CTRL (R80): the data byte is a control word. -/
def execWriteCtrl (b : Byte) (s : State) : Outcome := s.writeControl b

end Sys2Proof.Machine
end

