-- ==== Sys2Proof/Machine/ControlWord.lean ====
section
/-!
DEFINITION. The meanings of the control words (format CW8): READBACK, LATCH and MODESET (40_control_word.md).
-/

namespace Sys2Proof.Machine

/-- READBACK_EARLY (R87): a no-op on `Early`. On `Late` the same word is the undescribed command of R88. -/
def execReadbackEarly (s : State) : Outcome :=
  match s.params.variant with
  | .early => .next s
  | .late => .refused .readbackUndescribed

/-- READBACK_LATE (R88, 93_implementation_defined.md U2): the spec gives the command no meaning and has the model refuse
it. -/
def execReadbackLate (_ : State) : Outcome :=
  .refused .readbackUndescribed

/-- LATCH0 (R81). -/
def execLatch0 (s : State) : Outcome := .next (s.latchCommand .ch0)

/-- LATCH1 (R81). -/
def execLatch1 (s : State) : Outcome := .next (s.latchCommand .ch1)

/-- LATCH2 (R81). -/
def execLatch2 (s : State) : Outcome := .next (s.latchCommand .ch2)

/-- MODESET_C0_LSB_M0 (R82, R83): channel 0, LSB-only, mode 0. -/
def execModesetC0LsbM0 (d : Bool) (s : State) : Outcome := .next (s.modeSetCommand .ch0 .lsb .f0 d)

/-- MODESET_C0_LSB_M1 (R82, R83): channel 0, LSB-only, mode 1. -/
def execModesetC0LsbM1 (d : Bool) (s : State) : Outcome := .next (s.modeSetCommand .ch0 .lsb .f1 d)

/-- MODESET_C0_LSB_M2 (R82, R83): channel 0, LSB-only, mode 2. -/
def execModesetC0LsbM2 (d : Bool) (s : State) : Outcome := .next (s.modeSetCommand .ch0 .lsb .f2 d)

/-- MODESET_C0_LSB_M3 (R82, R83): channel 0, LSB-only, mode 3. -/
def execModesetC0LsbM3 (d : Bool) (s : State) : Outcome := .next (s.modeSetCommand .ch0 .lsb .f3 d)

/-- MODESET_C0_LSB_M4 (R82, R83): channel 0, LSB-only, mode 4. -/
def execModesetC0LsbM4 (d : Bool) (s : State) : Outcome := .next (s.modeSetCommand .ch0 .lsb .f4 d)

/-- MODESET_C0_LSB_M5 (R82, R83): channel 0, LSB-only, mode 5. -/
def execModesetC0LsbM5 (d : Bool) (s : State) : Outcome := .next (s.modeSetCommand .ch0 .lsb .f5 d)

/-- MODESET_C0_LSB_M6 (R82, R83): channel 0, LSB-only, mode 2 (mode bits 6, R66). -/
def execModesetC0LsbM6 (d : Bool) (s : State) : Outcome := .next (s.modeSetCommand .ch0 .lsb .f6 d)

/-- MODESET_C0_LSB_M7 (R82, R83): channel 0, LSB-only, mode 3 (mode bits 7, R66). -/
def execModesetC0LsbM7 (d : Bool) (s : State) : Outcome := .next (s.modeSetCommand .ch0 .lsb .f7 d)

/-- MODESET_C0_MSB_M0 (R82, R83): channel 0, MSB-only, mode 0. -/
def execModesetC0MsbM0 (d : Bool) (s : State) : Outcome := .next (s.modeSetCommand .ch0 .msb .f0 d)

/-- MODESET_C0_MSB_M1 (R82, R83): channel 0, MSB-only, mode 1. -/
def execModesetC0MsbM1 (d : Bool) (s : State) : Outcome := .next (s.modeSetCommand .ch0 .msb .f1 d)

/-- MODESET_C0_MSB_M2 (R82, R83): channel 0, MSB-only, mode 2. -/
def execModesetC0MsbM2 (d : Bool) (s : State) : Outcome := .next (s.modeSetCommand .ch0 .msb .f2 d)

/-- MODESET_C0_MSB_M3 (R82, R83): channel 0, MSB-only, mode 3. -/
def execModesetC0MsbM3 (d : Bool) (s : State) : Outcome := .next (s.modeSetCommand .ch0 .msb .f3 d)

/-- MODESET_C0_MSB_M4 (R82, R83): channel 0, MSB-only, mode 4. -/
def execModesetC0MsbM4 (d : Bool) (s : State) : Outcome := .next (s.modeSetCommand .ch0 .msb .f4 d)

/-- MODESET_C0_MSB_M5 (R82, R83): channel 0, MSB-only, mode 5. -/
def execModesetC0MsbM5 (d : Bool) (s : State) : Outcome := .next (s.modeSetCommand .ch0 .msb .f5 d)

/-- MODESET_C0_MSB_M6 (R82, R83): channel 0, MSB-only, mode 2 (mode bits 6, R66). -/
def execModesetC0MsbM6 (d : Bool) (s : State) : Outcome := .next (s.modeSetCommand .ch0 .msb .f6 d)

/-- MODESET_C0_MSB_M7 (R82, R83): channel 0, MSB-only, mode 3 (mode bits 7, R66). -/
def execModesetC0MsbM7 (d : Bool) (s : State) : Outcome := .next (s.modeSetCommand .ch0 .msb .f7 d)

/-- MODESET_C0_LSBMSB_M0 (R82, R83): channel 0, LSB-then-MSB, mode 0. -/
def execModesetC0LsbmsbM0 (d : Bool) (s : State) : Outcome := .next (s.modeSetCommand .ch0 .lsbMsb .f0 d)

/-- MODESET_C0_LSBMSB_M1 (R82, R83): channel 0, LSB-then-MSB, mode 1. -/
def execModesetC0LsbmsbM1 (d : Bool) (s : State) : Outcome := .next (s.modeSetCommand .ch0 .lsbMsb .f1 d)

/-- MODESET_C0_LSBMSB_M2 (R82, R83): channel 0, LSB-then-MSB, mode 2. -/
def execModesetC0LsbmsbM2 (d : Bool) (s : State) : Outcome := .next (s.modeSetCommand .ch0 .lsbMsb .f2 d)

/-- MODESET_C0_LSBMSB_M3 (R82, R83): channel 0, LSB-then-MSB, mode 3. -/
def execModesetC0LsbmsbM3 (d : Bool) (s : State) : Outcome := .next (s.modeSetCommand .ch0 .lsbMsb .f3 d)

/-- MODESET_C0_LSBMSB_M4 (R82, R83): channel 0, LSB-then-MSB, mode 4. -/
def execModesetC0LsbmsbM4 (d : Bool) (s : State) : Outcome := .next (s.modeSetCommand .ch0 .lsbMsb .f4 d)

/-- MODESET_C0_LSBMSB_M5 (R82, R83): channel 0, LSB-then-MSB, mode 5. -/
def execModesetC0LsbmsbM5 (d : Bool) (s : State) : Outcome := .next (s.modeSetCommand .ch0 .lsbMsb .f5 d)

/-- MODESET_C0_LSBMSB_M6 (R82, R83): channel 0, LSB-then-MSB, mode 2 (mode bits 6, R66). -/
def execModesetC0LsbmsbM6 (d : Bool) (s : State) : Outcome := .next (s.modeSetCommand .ch0 .lsbMsb .f6 d)

/-- MODESET_C0_LSBMSB_M7 (R82, R83): channel 0, LSB-then-MSB, mode 3 (mode bits 7, R66). -/
def execModesetC0LsbmsbM7 (d : Bool) (s : State) : Outcome := .next (s.modeSetCommand .ch0 .lsbMsb .f7 d)

/-- MODESET_C1_LSB_M0 (R82, R83): channel 1, LSB-only, mode 0. -/
def execModesetC1LsbM0 (d : Bool) (s : State) : Outcome := .next (s.modeSetCommand .ch1 .lsb .f0 d)

/-- MODESET_C1_LSB_M1 (R82, R83): channel 1, LSB-only, mode 1. -/
def execModesetC1LsbM1 (d : Bool) (s : State) : Outcome := .next (s.modeSetCommand .ch1 .lsb .f1 d)

/-- MODESET_C1_LSB_M2 (R82, R83): channel 1, LSB-only, mode 2. -/
def execModesetC1LsbM2 (d : Bool) (s : State) : Outcome := .next (s.modeSetCommand .ch1 .lsb .f2 d)

/-- MODESET_C1_LSB_M3 (R82, R83): channel 1, LSB-only, mode 3. -/
def execModesetC1LsbM3 (d : Bool) (s : State) : Outcome := .next (s.modeSetCommand .ch1 .lsb .f3 d)

/-- MODESET_C1_LSB_M4 (R82, R83): channel 1, LSB-only, mode 4. -/
def execModesetC1LsbM4 (d : Bool) (s : State) : Outcome := .next (s.modeSetCommand .ch1 .lsb .f4 d)

/-- MODESET_C1_LSB_M5 (R82, R83): channel 1, LSB-only, mode 5. -/
def execModesetC1LsbM5 (d : Bool) (s : State) : Outcome := .next (s.modeSetCommand .ch1 .lsb .f5 d)

/-- MODESET_C1_LSB_M6 (R82, R83): channel 1, LSB-only, mode 2 (mode bits 6, R66). -/
def execModesetC1LsbM6 (d : Bool) (s : State) : Outcome := .next (s.modeSetCommand .ch1 .lsb .f6 d)

/-- MODESET_C1_LSB_M7 (R82, R83): channel 1, LSB-only, mode 3 (mode bits 7, R66). -/
def execModesetC1LsbM7 (d : Bool) (s : State) : Outcome := .next (s.modeSetCommand .ch1 .lsb .f7 d)

/-- MODESET_C1_MSB_M0 (R82, R83): channel 1, MSB-only, mode 0. -/
def execModesetC1MsbM0 (d : Bool) (s : State) : Outcome := .next (s.modeSetCommand .ch1 .msb .f0 d)

/-- MODESET_C1_MSB_M1 (R82, R83): channel 1, MSB-only, mode 1. -/
def execModesetC1MsbM1 (d : Bool) (s : State) : Outcome := .next (s.modeSetCommand .ch1 .msb .f1 d)

/-- MODESET_C1_MSB_M2 (R82, R83): channel 1, MSB-only, mode 2. -/
def execModesetC1MsbM2 (d : Bool) (s : State) : Outcome := .next (s.modeSetCommand .ch1 .msb .f2 d)

/-- MODESET_C1_MSB_M3 (R82, R83): channel 1, MSB-only, mode 3. -/
def execModesetC1MsbM3 (d : Bool) (s : State) : Outcome := .next (s.modeSetCommand .ch1 .msb .f3 d)

/-- MODESET_C1_MSB_M4 (R82, R83): channel 1, MSB-only, mode 4. -/
def execModesetC1MsbM4 (d : Bool) (s : State) : Outcome := .next (s.modeSetCommand .ch1 .msb .f4 d)

/-- MODESET_C1_MSB_M5 (R82, R83): channel 1, MSB-only, mode 5. -/
def execModesetC1MsbM5 (d : Bool) (s : State) : Outcome := .next (s.modeSetCommand .ch1 .msb .f5 d)

/-- MODESET_C1_MSB_M6 (R82, R83): channel 1, MSB-only, mode 2 (mode bits 6, R66). -/
def execModesetC1MsbM6 (d : Bool) (s : State) : Outcome := .next (s.modeSetCommand .ch1 .msb .f6 d)

/-- MODESET_C1_MSB_M7 (R82, R83): channel 1, MSB-only, mode 3 (mode bits 7, R66). -/
def execModesetC1MsbM7 (d : Bool) (s : State) : Outcome := .next (s.modeSetCommand .ch1 .msb .f7 d)

/-- MODESET_C1_LSBMSB_M0 (R82, R83): channel 1, LSB-then-MSB, mode 0. -/
def execModesetC1LsbmsbM0 (d : Bool) (s : State) : Outcome := .next (s.modeSetCommand .ch1 .lsbMsb .f0 d)

/-- MODESET_C1_LSBMSB_M1 (R82, R83): channel 1, LSB-then-MSB, mode 1. -/
def execModesetC1LsbmsbM1 (d : Bool) (s : State) : Outcome := .next (s.modeSetCommand .ch1 .lsbMsb .f1 d)

/-- MODESET_C1_LSBMSB_M2 (R82, R83): channel 1, LSB-then-MSB, mode 2. -/
def execModesetC1LsbmsbM2 (d : Bool) (s : State) : Outcome := .next (s.modeSetCommand .ch1 .lsbMsb .f2 d)

/-- MODESET_C1_LSBMSB_M3 (R82, R83): channel 1, LSB-then-MSB, mode 3. -/
def execModesetC1LsbmsbM3 (d : Bool) (s : State) : Outcome := .next (s.modeSetCommand .ch1 .lsbMsb .f3 d)

/-- MODESET_C1_LSBMSB_M4 (R82, R83): channel 1, LSB-then-MSB, mode 4. -/
def execModesetC1LsbmsbM4 (d : Bool) (s : State) : Outcome := .next (s.modeSetCommand .ch1 .lsbMsb .f4 d)

/-- MODESET_C1_LSBMSB_M5 (R82, R83): channel 1, LSB-then-MSB, mode 5. -/
def execModesetC1LsbmsbM5 (d : Bool) (s : State) : Outcome := .next (s.modeSetCommand .ch1 .lsbMsb .f5 d)

/-- MODESET_C1_LSBMSB_M6 (R82, R83): channel 1, LSB-then-MSB, mode 2 (mode bits 6, R66). -/
def execModesetC1LsbmsbM6 (d : Bool) (s : State) : Outcome := .next (s.modeSetCommand .ch1 .lsbMsb .f6 d)

/-- MODESET_C1_LSBMSB_M7 (R82, R83): channel 1, LSB-then-MSB, mode 3 (mode bits 7, R66). -/
def execModesetC1LsbmsbM7 (d : Bool) (s : State) : Outcome := .next (s.modeSetCommand .ch1 .lsbMsb .f7 d)

/-- MODESET_C2_LSB_M0 (R82, R83): channel 2, LSB-only, mode 0. -/
def execModesetC2LsbM0 (d : Bool) (s : State) : Outcome := .next (s.modeSetCommand .ch2 .lsb .f0 d)

/-- MODESET_C2_LSB_M1 (R82, R83): channel 2, LSB-only, mode 1. -/
def execModesetC2LsbM1 (d : Bool) (s : State) : Outcome := .next (s.modeSetCommand .ch2 .lsb .f1 d)

/-- MODESET_C2_LSB_M2 (R82, R83): channel 2, LSB-only, mode 2. -/
def execModesetC2LsbM2 (d : Bool) (s : State) : Outcome := .next (s.modeSetCommand .ch2 .lsb .f2 d)

/-- MODESET_C2_LSB_M3 (R82, R83): channel 2, LSB-only, mode 3. -/
def execModesetC2LsbM3 (d : Bool) (s : State) : Outcome := .next (s.modeSetCommand .ch2 .lsb .f3 d)

/-- MODESET_C2_LSB_M4 (R82, R83): channel 2, LSB-only, mode 4. -/
def execModesetC2LsbM4 (d : Bool) (s : State) : Outcome := .next (s.modeSetCommand .ch2 .lsb .f4 d)

/-- MODESET_C2_LSB_M5 (R82, R83): channel 2, LSB-only, mode 5. -/
def execModesetC2LsbM5 (d : Bool) (s : State) : Outcome := .next (s.modeSetCommand .ch2 .lsb .f5 d)

/-- MODESET_C2_LSB_M6 (R82, R83): channel 2, LSB-only, mode 2 (mode bits 6, R66). -/
def execModesetC2LsbM6 (d : Bool) (s : State) : Outcome := .next (s.modeSetCommand .ch2 .lsb .f6 d)

/-- MODESET_C2_LSB_M7 (R82, R83): channel 2, LSB-only, mode 3 (mode bits 7, R66). -/
def execModesetC2LsbM7 (d : Bool) (s : State) : Outcome := .next (s.modeSetCommand .ch2 .lsb .f7 d)

/-- MODESET_C2_MSB_M0 (R82, R83): channel 2, MSB-only, mode 0. -/
def execModesetC2MsbM0 (d : Bool) (s : State) : Outcome := .next (s.modeSetCommand .ch2 .msb .f0 d)

/-- MODESET_C2_MSB_M1 (R82, R83): channel 2, MSB-only, mode 1. -/
def execModesetC2MsbM1 (d : Bool) (s : State) : Outcome := .next (s.modeSetCommand .ch2 .msb .f1 d)

/-- MODESET_C2_MSB_M2 (R82, R83): channel 2, MSB-only, mode 2. -/
def execModesetC2MsbM2 (d : Bool) (s : State) : Outcome := .next (s.modeSetCommand .ch2 .msb .f2 d)

/-- MODESET_C2_MSB_M3 (R82, R83): channel 2, MSB-only, mode 3. -/
def execModesetC2MsbM3 (d : Bool) (s : State) : Outcome := .next (s.modeSetCommand .ch2 .msb .f3 d)

/-- MODESET_C2_MSB_M4 (R82, R83): channel 2, MSB-only, mode 4. -/
def execModesetC2MsbM4 (d : Bool) (s : State) : Outcome := .next (s.modeSetCommand .ch2 .msb .f4 d)

/-- MODESET_C2_MSB_M5 (R82, R83): channel 2, MSB-only, mode 5. -/
def execModesetC2MsbM5 (d : Bool) (s : State) : Outcome := .next (s.modeSetCommand .ch2 .msb .f5 d)

/-- MODESET_C2_MSB_M6 (R82, R83): channel 2, MSB-only, mode 2 (mode bits 6, R66). -/
def execModesetC2MsbM6 (d : Bool) (s : State) : Outcome := .next (s.modeSetCommand .ch2 .msb .f6 d)

/-- MODESET_C2_MSB_M7 (R82, R83): channel 2, MSB-only, mode 3 (mode bits 7, R66). -/
def execModesetC2MsbM7 (d : Bool) (s : State) : Outcome := .next (s.modeSetCommand .ch2 .msb .f7 d)

/-- MODESET_C2_LSBMSB_M0 (R82, R83): channel 2, LSB-then-MSB, mode 0. -/
def execModesetC2LsbmsbM0 (d : Bool) (s : State) : Outcome := .next (s.modeSetCommand .ch2 .lsbMsb .f0 d)

/-- MODESET_C2_LSBMSB_M1 (R82, R83): channel 2, LSB-then-MSB, mode 1. -/
def execModesetC2LsbmsbM1 (d : Bool) (s : State) : Outcome := .next (s.modeSetCommand .ch2 .lsbMsb .f1 d)

/-- MODESET_C2_LSBMSB_M2 (R82, R83): channel 2, LSB-then-MSB, mode 2. -/
def execModesetC2LsbmsbM2 (d : Bool) (s : State) : Outcome := .next (s.modeSetCommand .ch2 .lsbMsb .f2 d)

/-- MODESET_C2_LSBMSB_M3 (R82, R83): channel 2, LSB-then-MSB, mode 3. -/
def execModesetC2LsbmsbM3 (d : Bool) (s : State) : Outcome := .next (s.modeSetCommand .ch2 .lsbMsb .f3 d)

/-- MODESET_C2_LSBMSB_M4 (R82, R83): channel 2, LSB-then-MSB, mode 4. -/
def execModesetC2LsbmsbM4 (d : Bool) (s : State) : Outcome := .next (s.modeSetCommand .ch2 .lsbMsb .f4 d)

/-- MODESET_C2_LSBMSB_M5 (R82, R83): channel 2, LSB-then-MSB, mode 5. -/
def execModesetC2LsbmsbM5 (d : Bool) (s : State) : Outcome := .next (s.modeSetCommand .ch2 .lsbMsb .f5 d)

/-- MODESET_C2_LSBMSB_M6 (R82, R83): channel 2, LSB-then-MSB, mode 2 (mode bits 6, R66). -/
def execModesetC2LsbmsbM6 (d : Bool) (s : State) : Outcome := .next (s.modeSetCommand .ch2 .lsbMsb .f6 d)

/-- MODESET_C2_LSBMSB_M7 (R82, R83): channel 2, LSB-then-MSB, mode 3 (mode bits 7, R66). -/
def execModesetC2LsbmsbM7 (d : Bool) (s : State) : Outcome := .next (s.modeSetCommand .ch2 .lsbMsb .f7 d)

end Sys2Proof.Machine
end

