-- ==== Sys2Proof/Machine/Internal.lean ====
section
/-!
DEFINITION. The meanings of the INTERNAL rows: the pseudocode of an operation that a tick, a count write or a latch word
selects, applied to one channel. No input decodes to one of them (30_encoding.md rule R73); `Chan.tick`,
`Chan.writeByte` and `State.latchCommand` run the same operations where the spec selects them (assumption log 7).
-/

namespace Sys2Proof.Machine

/-- LOAD_CYCLE (R162). -/
def execLoadCycle (c : Channel) (s : State) : Outcome := .next (s.update c Chan.loadCycle)

/-- PLACEHOLDER_LOAD (R164). -/
def execPlaceholderLoad (c : Channel) (s : State) : Outcome :=
  .next (s.update c (Chan.placeholderLoad s.params.placeholder))

/-- COUNT_MODE0 (R181). -/
def execCountMode0 (c : Channel) (s : State) : Outcome := .next (s.update c Chan.countMode0)

/-- COUNT_MODE1 (R184). -/
def execCountMode1 (c : Channel) (s : State) : Outcome := .next (s.update c Chan.countMode1)

/-- COUNT_MODE2 (R187). -/
def execCountMode2 (c : Channel) (s : State) : Outcome := .next (s.update c Chan.countMode2)

/-- COUNT_MODE3 (R193). -/
def execCountMode3 (c : Channel) (s : State) : Outcome :=
  .next (s.update c (Chan.countMode3 s.params.variant))

/-- COUNT_MODE4 (R198). -/
def execCountMode4 (c : Channel) (s : State) : Outcome := .next (s.update c Chan.countMode4)

/-- COUNT_MODE5 (R200). -/
def execCountMode5 (c : Channel) (s : State) : Outcome := .next (s.update c Chan.countMode5)

/-- COMPLETE_LOAD (R104). -/
def execCompleteLoad (c : Channel) (s : State) : Outcome := .next (s.update c Chan.completeLoad)

/-- LATCH_OP (R121). -/
def execLatchOp (c : Channel) (s : State) : Outcome := .next (s.update c Chan.latch)

end Sys2Proof.Machine
end

