-- ==== Sys2Proof/Machine/Pins.lean ====
section
/-!
DEFINITION. The meanings of the pin events (format PIN): SET_GATE, TICK, CH_TICK, RESET (43_gate.md, 44_tick.md,
70_reset_and_hazards.md).
-/

namespace Sys2Proof.Machine

/-- SET_GATE (R141). -/
def execSetGate (c : Channel) (g : Level) (s : State) : Outcome :=
  .next (s.update c (Chan.setGate g))

/-- TICK (R160). -/
def execTick (s : State) : Outcome := .next s.tickAll

/-- CH_TICK (R161). -/
def execChTick (c : Channel) (s : State) : Outcome := .next (s.chTick c)

/-- RESET (R230). -/
def execReset (s : State) : Outcome := .next s.resetAll

end Sys2Proof.Machine
end

