-- ==== Sys2Proof/Machine/Dispatch.lean ====
section
/-!
DEFINITION. One arm for each constructor of `Instr`, each one call of the meaning of its own.
-/

namespace Sys2Proof.Machine

def exec (i : Instr) (s : State) : Host.Outcome State Fault Refusal :=
  match i with
  | .readbackEarly => Sys2Proof.Machine.execReadbackEarly s
  | .readbackLate => Sys2Proof.Machine.execReadbackLate s
  | .latch0 => Sys2Proof.Machine.execLatch0 s
  | .latch1 => Sys2Proof.Machine.execLatch1 s
  | .latch2 => Sys2Proof.Machine.execLatch2 s
  | .modesetC0LsbM0 d => Sys2Proof.Machine.execModesetC0LsbM0 d s
  | .modesetC0LsbM1 d => Sys2Proof.Machine.execModesetC0LsbM1 d s
  | .modesetC0LsbM2 d => Sys2Proof.Machine.execModesetC0LsbM2 d s
  | .modesetC0LsbM3 d => Sys2Proof.Machine.execModesetC0LsbM3 d s
  | .modesetC0LsbM4 d => Sys2Proof.Machine.execModesetC0LsbM4 d s
  | .modesetC0LsbM5 d => Sys2Proof.Machine.execModesetC0LsbM5 d s
  | .modesetC0LsbM6 d => Sys2Proof.Machine.execModesetC0LsbM6 d s
  | .modesetC0LsbM7 d => Sys2Proof.Machine.execModesetC0LsbM7 d s
  | .modesetC0MsbM0 d => Sys2Proof.Machine.execModesetC0MsbM0 d s
  | .modesetC0MsbM1 d => Sys2Proof.Machine.execModesetC0MsbM1 d s
  | .modesetC0MsbM2 d => Sys2Proof.Machine.execModesetC0MsbM2 d s
  | .modesetC0MsbM3 d => Sys2Proof.Machine.execModesetC0MsbM3 d s
  | .modesetC0MsbM4 d => Sys2Proof.Machine.execModesetC0MsbM4 d s
  | .modesetC0MsbM5 d => Sys2Proof.Machine.execModesetC0MsbM5 d s
  | .modesetC0MsbM6 d => Sys2Proof.Machine.execModesetC0MsbM6 d s
  | .modesetC0MsbM7 d => Sys2Proof.Machine.execModesetC0MsbM7 d s
  | .modesetC0LsbmsbM0 d => Sys2Proof.Machine.execModesetC0LsbmsbM0 d s
  | .modesetC0LsbmsbM1 d => Sys2Proof.Machine.execModesetC0LsbmsbM1 d s
  | .modesetC0LsbmsbM2 d => Sys2Proof.Machine.execModesetC0LsbmsbM2 d s
  | .modesetC0LsbmsbM3 d => Sys2Proof.Machine.execModesetC0LsbmsbM3 d s
  | .modesetC0LsbmsbM4 d => Sys2Proof.Machine.execModesetC0LsbmsbM4 d s
  | .modesetC0LsbmsbM5 d => Sys2Proof.Machine.execModesetC0LsbmsbM5 d s
  | .modesetC0LsbmsbM6 d => Sys2Proof.Machine.execModesetC0LsbmsbM6 d s
  | .modesetC0LsbmsbM7 d => Sys2Proof.Machine.execModesetC0LsbmsbM7 d s
  | .modesetC1LsbM0 d => Sys2Proof.Machine.execModesetC1LsbM0 d s
  | .modesetC1LsbM1 d => Sys2Proof.Machine.execModesetC1LsbM1 d s
  | .modesetC1LsbM2 d => Sys2Proof.Machine.execModesetC1LsbM2 d s
  | .modesetC1LsbM3 d => Sys2Proof.Machine.execModesetC1LsbM3 d s
  | .modesetC1LsbM4 d => Sys2Proof.Machine.execModesetC1LsbM4 d s
  | .modesetC1LsbM5 d => Sys2Proof.Machine.execModesetC1LsbM5 d s
  | .modesetC1LsbM6 d => Sys2Proof.Machine.execModesetC1LsbM6 d s
  | .modesetC1LsbM7 d => Sys2Proof.Machine.execModesetC1LsbM7 d s
  | .modesetC1MsbM0 d => Sys2Proof.Machine.execModesetC1MsbM0 d s
  | .modesetC1MsbM1 d => Sys2Proof.Machine.execModesetC1MsbM1 d s
  | .modesetC1MsbM2 d => Sys2Proof.Machine.execModesetC1MsbM2 d s
  | .modesetC1MsbM3 d => Sys2Proof.Machine.execModesetC1MsbM3 d s
  | .modesetC1MsbM4 d => Sys2Proof.Machine.execModesetC1MsbM4 d s
  | .modesetC1MsbM5 d => Sys2Proof.Machine.execModesetC1MsbM5 d s
  | .modesetC1MsbM6 d => Sys2Proof.Machine.execModesetC1MsbM6 d s
  | .modesetC1MsbM7 d => Sys2Proof.Machine.execModesetC1MsbM7 d s
  | .modesetC1LsbmsbM0 d => Sys2Proof.Machine.execModesetC1LsbmsbM0 d s
  | .modesetC1LsbmsbM1 d => Sys2Proof.Machine.execModesetC1LsbmsbM1 d s
  | .modesetC1LsbmsbM2 d => Sys2Proof.Machine.execModesetC1LsbmsbM2 d s
  | .modesetC1LsbmsbM3 d => Sys2Proof.Machine.execModesetC1LsbmsbM3 d s
  | .modesetC1LsbmsbM4 d => Sys2Proof.Machine.execModesetC1LsbmsbM4 d s
  | .modesetC1LsbmsbM5 d => Sys2Proof.Machine.execModesetC1LsbmsbM5 d s
  | .modesetC1LsbmsbM6 d => Sys2Proof.Machine.execModesetC1LsbmsbM6 d s
  | .modesetC1LsbmsbM7 d => Sys2Proof.Machine.execModesetC1LsbmsbM7 d s
  | .modesetC2LsbM0 d => Sys2Proof.Machine.execModesetC2LsbM0 d s
  | .modesetC2LsbM1 d => Sys2Proof.Machine.execModesetC2LsbM1 d s
  | .modesetC2LsbM2 d => Sys2Proof.Machine.execModesetC2LsbM2 d s
  | .modesetC2LsbM3 d => Sys2Proof.Machine.execModesetC2LsbM3 d s
  | .modesetC2LsbM4 d => Sys2Proof.Machine.execModesetC2LsbM4 d s
  | .modesetC2LsbM5 d => Sys2Proof.Machine.execModesetC2LsbM5 d s
  | .modesetC2LsbM6 d => Sys2Proof.Machine.execModesetC2LsbM6 d s
  | .modesetC2LsbM7 d => Sys2Proof.Machine.execModesetC2LsbM7 d s
  | .modesetC2MsbM0 d => Sys2Proof.Machine.execModesetC2MsbM0 d s
  | .modesetC2MsbM1 d => Sys2Proof.Machine.execModesetC2MsbM1 d s
  | .modesetC2MsbM2 d => Sys2Proof.Machine.execModesetC2MsbM2 d s
  | .modesetC2MsbM3 d => Sys2Proof.Machine.execModesetC2MsbM3 d s
  | .modesetC2MsbM4 d => Sys2Proof.Machine.execModesetC2MsbM4 d s
  | .modesetC2MsbM5 d => Sys2Proof.Machine.execModesetC2MsbM5 d s
  | .modesetC2MsbM6 d => Sys2Proof.Machine.execModesetC2MsbM6 d s
  | .modesetC2MsbM7 d => Sys2Proof.Machine.execModesetC2MsbM7 d s
  | .modesetC2LsbmsbM0 d => Sys2Proof.Machine.execModesetC2LsbmsbM0 d s
  | .modesetC2LsbmsbM1 d => Sys2Proof.Machine.execModesetC2LsbmsbM1 d s
  | .modesetC2LsbmsbM2 d => Sys2Proof.Machine.execModesetC2LsbmsbM2 d s
  | .modesetC2LsbmsbM3 d => Sys2Proof.Machine.execModesetC2LsbmsbM3 d s
  | .modesetC2LsbmsbM4 d => Sys2Proof.Machine.execModesetC2LsbmsbM4 d s
  | .modesetC2LsbmsbM5 d => Sys2Proof.Machine.execModesetC2LsbmsbM5 d s
  | .modesetC2LsbmsbM6 d => Sys2Proof.Machine.execModesetC2LsbmsbM6 d s
  | .modesetC2LsbmsbM7 d => Sys2Proof.Machine.execModesetC2LsbmsbM7 d s
  | .readData0 => Sys2Proof.Machine.execReadData0 s
  | .readData1 => Sys2Proof.Machine.execReadData1 s
  | .readData2 => Sys2Proof.Machine.execReadData2 s
  | .readCtrl => Sys2Proof.Machine.execReadCtrl s
  | .writeData0 b => Sys2Proof.Machine.execWriteData0 b s
  | .writeData1 b => Sys2Proof.Machine.execWriteData1 b s
  | .writeData2 b => Sys2Proof.Machine.execWriteData2 b s
  | .writeCtrl b => Sys2Proof.Machine.execWriteCtrl b s
  | .setGate c g => Sys2Proof.Machine.execSetGate c g s
  | .tick => Sys2Proof.Machine.execTick s
  | .chTick c => Sys2Proof.Machine.execChTick c s
  | .reset => Sys2Proof.Machine.execReset s
  | .loadCycle c => Sys2Proof.Machine.execLoadCycle c s
  | .placeholderLoad c => Sys2Proof.Machine.execPlaceholderLoad c s
  | .countMode0 c => Sys2Proof.Machine.execCountMode0 c s
  | .countMode1 c => Sys2Proof.Machine.execCountMode1 c s
  | .countMode2 c => Sys2Proof.Machine.execCountMode2 c s
  | .countMode3 c => Sys2Proof.Machine.execCountMode3 c s
  | .countMode4 c => Sys2Proof.Machine.execCountMode4 c s
  | .countMode5 c => Sys2Proof.Machine.execCountMode5 c s
  | .completeLoad c => Sys2Proof.Machine.execCompleteLoad c s
  | .latchOp c => Sys2Proof.Machine.execLatchOp c s

end Sys2Proof.Machine
end

