-- ==== Sys2Proof/Machine/Step.lean ====
section
/-!
DEFINITION. One step of the machine: take the first event of the sequence the environment delivers, decode it, run it
(20_memory.md rules R40, R41, R50).
-/

namespace Sys2Proof.Machine

/-- One step. With no event to take nothing happens: the block initiates nothing and works on nothing in the background
(R40, R50). -/
def step (s : State) : Host.Outcome State Fault Refusal :=
  match s.inputs with
  | [] => .next s
  | e :: rest => exec (decode s.params.variant e) { s with inputs := rest }

/-- The state with the event that a word of the opcode table stands for put first in the sequence, so that the next step
runs it (assumption log 4, 5). A word that no format holds changes nothing. -/
def State.withFetchWord (s : State) (nbits w : Nat) : State :=
  match tableInput nbits w with
  | some e => { s with inputs := e :: s.inputs }
  | none => s

end Sys2Proof.Machine
end

