-- ==== Sys2Proof/Safety.lean ====
section
/-!
DEFINITION. The terms in which statements speak of states and runs: the invariants of 10_state.md rule R29, the window
in which a channel's values are no claim about the hardware, decimal counts, and runs of clock pulses.
-/

namespace Sys2Proof

/-- The operation has a meaning on an instance with variant `v`: it is neither of the two the spec has the model refuse
(R212). A control word written to port 3 is the read-back command if its channel field is 3. -/
def Instr.describedOn (v : Variant) : Instr → Bool
  | .readbackEarly => v == .early
  | .readbackLate => false
  | .readCtrl => false
  | .writeCtrl b => (channelField b).isSome || v == .early
  | _ => true

/-- The operation as the mode decoder sees it: a bus write of port 3 is the control word it carries (R43, R80). -/
def Instr.atDecoder (v : Variant) : Instr → Instr
  | .writeCtrl b => decodeControl v b
  | i => i

end Sys2Proof

namespace Sys2Proof.Machine

/-! The invariants of one channel (R29). -/

/-- R29 item 2: the load mask is the function of variant and mode that R18 gives. -/
abbrev Chan.LoadMaskFits (v : Variant) (ch : Chan) : Prop :=
  ch.loadMask = loadMaskOf v ch.mode

/-- R29 item 3, R22. -/
abbrev Chan.ArmedIffSubsequent (ch : Chan) : Prop :=
  ch.armed = true ↔ ch.loadPhase = .subsequent

/-- R29 item 4. -/
abbrev Chan.UnarmedWaitsForReload (ch : Chan) : Prop :=
  ch.armed = false → ch.countingState = .waitingForReload

/-- R29 item 5, first half. -/
abbrev Chan.TriggerWaitsInModes1And5 (ch : Chan) : Prop :=
  ch.countingState = .waitingForLoadTrigger → ch.mode = .mode1 ∨ ch.mode = .mode5

/-- R29 item 5, second half. -/
abbrev Chan.GateWaitsInModes2And3 (ch : Chan) : Prop :=
  ch.countingState = .waitingForGate → ch.mode = .mode2 ∨ ch.mode = .mode3

/-- R29 item 6. -/
abbrev Chan.UndefinedOnlyBeforeTrigger (ch : Chan) : Prop :=
  ch.ceUndefined = true →
    (ch.mode = .mode1 ∨ ch.mode = .mode5) ∧
    (ch.countingState = .waitingForLoadTrigger ∨ ch.countingState = .waitingForLoadCycle)

/-- R29 item 7. -/
abbrev Chan.SecondByteOnlyInTwoByteAccess (ch : Chan) : Prop :=
  (ch.loadState = .secondByte → ch.access = .lsbMsb) ∧
  (ch.readState = .secondByte → ch.access = .lsbMsb)

/-- R29 item 8, for binary and BCD counting alike. -/
abbrev Chan.LateSquareWaveEven (v : Variant) (ch : Chan) : Prop :=
  v = .late → ch.mode = .mode3 → ch.countingState = .counting → isOdd ch.countingElement = false

/-- R26: no rule enters `CountingTriggered`. -/
abbrev Chan.NeverCountingTriggered (ch : Chan) : Prop :=
  ch.countingState ≠ .countingTriggered

/-- R26, row `WaitingForReload`: an armed channel waits there only in mode 0 between the two bytes of a load. -/
abbrev Chan.ArmedWaitIsHalfLoad (ch : Chan) : Prop :=
  ch.countingState = .waitingForReload → ch.armed = true →
    ch.mode = .mode0 ∧ ch.access = .lsbMsb ∧ ch.loadState = .secondByte

/-- What holds of a channel after every event, from creation on (R29, R26). -/
abbrev Chan.Inv (v : Variant) (ch : Chan) : Prop :=
  ch.LoadMaskFits v ∧ ch.ArmedIffSubsequent ∧ ch.UnarmedWaitsForReload ∧ ch.TriggerWaitsInModes1And5 ∧
  ch.GateWaitsInModes2And3 ∧ ch.UndefinedOnlyBeforeTrigger ∧ ch.SecondByteOnlyInTwoByteAccess ∧
  ch.LateSquareWaveEven v ∧ ch.NeverCountingTriggered ∧ ch.ArmedWaitIsHalfLoad

/-- The invariant of the block: of each of its three channels. -/
abbrev State.Inv (s : State) : Prop :=
  s.ch0.Inv s.params.variant ∧ s.ch1.Inv s.params.variant ∧ s.ch2.Inv s.params.variant

/-! What a safe run is. -/

/-- The values the rules give for channel `c` are claims about the hardware (R213, R243). -/
abbrev State.Claimable (s : State) (c : Channel) : Prop :=
  (s.chan c).ceUndefined = false

/-! How statements name groups of operations. -/

/-- READ_DATA0, READ_DATA1 or READ_DATA2. -/
def readInstr : Channel → Instr
  | .ch0 => .readData0
  | .ch1 => .readData1
  | .ch2 => .readData2

/-- WRITE_DATA0, WRITE_DATA1 or WRITE_DATA2 with byte `b`. -/
def writeInstr (b : Byte) : Channel → Instr
  | .ch0 => .writeData0 b
  | .ch1 => .writeData1 b
  | .ch2 => .writeData2 b

/-- The COUNT_MODE row of a mode, on channel `c` (R170). -/
def countModeInstr (c : Channel) : Mode → Instr
  | .mode0 => .countMode0 c
  | .mode1 => .countMode1 c
  | .mode2 => .countMode2 c
  | .mode3 => .countMode3 c
  | .mode4 => .countMode4 c
  | .mode5 => .countMode5 c

/-- The four fields of a control word put together as in the figure of R60: `cc aa mmm d`. -/
def controlWord (cc aa : BitVec 2) (mmm : BitVec 3) (d : BitVec 1) : Byte :=
  cc ++ aa ++ mmm ++ d

/-- The value of a channel in bits 7:6 (R61). -/
def channelBits : Channel → BitVec 2
  | .ch0 => 0
  | .ch1 => 1
  | .ch2 => 2

/-- The value of an access mode in bits 5:4 (R62). -/
def accessBits : Access → BitVec 2
  | .lsb => 1
  | .msb => 2
  | .lsbMsb => 3

/-- The value of a mode field in bits 3:1 (R63). -/
def modeBits : ModeField → BitVec 3
  | .f0 => 0
  | .f1 => 1
  | .f2 => 2
  | .f3 => 3
  | .f4 => 4
  | .f5 => 5
  | .f6 => 6
  | .f7 => 7

/-! Frames. -/

/-- `t` differs from `s` in channel `c` at most. -/
abbrev State.SameBut (c : Channel) (s t : State) : Prop :=
  (∀ c', c' ≠ c → t.chan c' = s.chan c') ∧ t.params = s.params ∧ t.inputs = s.inputs ∧ t.dataOut = s.dataOut

/-- No later event tells the two channels apart: they are equal, or neither holds a snapshot and they differ in
`count_latch` at most (R13, R233). -/
abbrev Chan.SameVisible (a b : Chan) : Prop :=
  a = b ∨ (a.latched = false ∧ b = { a with countLatch := b.countLatch })

/-- The same of two states, channel by channel. -/
abbrev State.SameVisible (s t : State) : Prop :=
  s.params = t.params ∧ s.inputs = t.inputs ∧ s.dataOut = t.dataOut ∧
  ∀ c, (s.chan c).SameVisible (t.chan c)

/-! Decimal counts (R69, R166). -/

/-- Every digit is at most 9 (R29 item 9). -/
abbrev ValidBcd (v : Count) : Prop :=
  (digit 0 v).toNat ≤ 9 ∧ (digit 1 v).toNat ≤ 9 ∧ (digit 2 v).toNat ≤ 9 ∧ (digit 3 v).toNat ≤ 9

/-- The number that four packed decimal digits stand for (R69). -/
def bcdValue (v : Count) : Nat :=
  1000 * (digit 3 v).toNat + 100 * (digit 2 v).toNat + 10 * (digit 1 v).toNat + (digit 0 v).toNat

/-- The number a counter value stands for, binary or decimal. -/
def countValue (bcd : Bool) (v : Count) : Nat :=
  if bcd then bcdValue v else v.toNat

/-- A value that can stand for a number: any in binary, decimal digits only in BCD. -/
abbrev ValidCount (bcd : Bool) (v : Count) : Prop :=
  bcd = true → ValidBcd v

/-- How many values the counter runs through before it comes back (R168). -/
def cycleLength (bcd : Bool) : Nat :=
  if bcd then 10000 else 65536

/-- The count that a `count_register` asks for: 0 stands for the whole cycle (R69, R251). -/
def loadedCount (bcd : Bool) (v : Count) : Nat :=
  if v = 0x0000 then cycleLength bcd else countValue bcd v

/-! Runs. -/

/-- The operations of a list, one after the other, stopping at the first that does not answer a next state. -/
def execAll : List Instr → State → Outcome
  | [], s => .next s
  | i :: is, s =>
    match exec i s with
    | .next t => execAll is t
    | .fault f => .fault f
    | .refused r => .refused r

/-- A channel after `n` ticks of its own, with no other event between them. -/
def Chan.ticks (p : Params) : Nat → Chan → Chan
  | 0, ch => ch
  | n + 1, ch => Chan.ticks p n (ch.tick p)

end Sys2Proof.Machine
end

