-- ==== Sys2Proof/Certificates/Slice0/Obligations.lean ====
section
/-!
DEFINITION. The statements for the provers, in the order of OBLIGATIONS.json.
-/

open Sys2Proof Sys2Proof.Machine

/-! Encoding. -/

/-- Decode and encode agree (30_encoding.md, rules R60 to R73): the encoding of every well-formed operation decodes to
it, with every operand at every value. -/
def Obligations.DecodeEncodeRoundTrip : Prop :=
  ∀ (v : Variant) (i : Instr), i.wellFormed v = true → ∃ e, encode i = some e ∧ decode v e = i

/-- Encoding what was decoded gives the control word back, but for the bits R68 calls ignored: bits 5:0 of a read-back
word and bits 3:0 of a latch word. No word is rejected. -/
def Obligations.EveryControlWordIsRecovered : Prop :=
  ∀ (v : Variant) (w : Byte),
    (decodeControl v w).wellFormed v = true ∧
    encode (decodeControl v w) = some (.control
      (if w &&& 0xC0 = 0xC0 then 0xC0 else if w &&& 0x30 = 0 then w &&& 0xF0 else w))

/-- R60: the four fields of a mode set word at their places. -/
def Obligations.ModeSetWordHasFieldsInPlace : Prop :=
  ∀ (v : Variant) (c : Channel) (a : Access) (f : ModeField) (d : BitVec 1),
    (decodeControl v (controlWord (channelBits c) (accessBits a) (modeBits f) d)).modesetOperands
      = some (c, a, f, d == 1)

/-- The complete map of R65: a channel field of 3 is the read-back command, an access field of 0 a latch request of the
channel whatever bits 3:0 are. -/
def Obligations.ReadbackAndLatchWordsIgnoreRest : Prop :=
  ∀ (v : Variant) (c : Channel) (aa : BitVec 2) (mmm : BitVec 3) (d : BitVec 1),
    decodeControl v (controlWord 3 aa mmm d) = readbackInstr v ∧
    decodeControl v (controlWord (channelBits c) 0 mmm d) = latchInstr c

/-- Vectors E1 to E12 of 95_test_vectors.md (E10 and E11 rest on decision D4, assumption log 10, the refusal that E12
names on decision D5), and three codes of R70, which are the spec's own (decision D2, assumption log 21). -/
def Obligations.SampleControlWordsDecode : Prop :=
  decodeControl .early 0x10 = .modesetC0LsbM0 false ∧ decodeControl .early 0x34 = .modesetC0LsbmsbM2 false ∧
  decodeControl .early 0x36 = .modesetC0LsbmsbM3 false ∧ decodeControl .early 0x54 = .modesetC1LsbM2 false ∧
  decodeControl .early 0x96 = .modesetC2LsbM3 false ∧ decodeControl .early 0xBB = .modesetC2LsbmsbM5 true ∧
  decodeControl .early 0x20 = .modesetC0MsbM0 false ∧ decodeControl .early 0x00 = .latch0 ∧
  decodeControl .early 0x4F = .latch1 ∧ decodeControl .early 0x1C = .modesetC0LsbM6 false ∧
  decodeControl .early 0x1E = .modesetC0LsbM7 false ∧ decodeControl .early 0xC2 = .readbackEarly ∧
  decodeControl .late 0xC2 = .readbackLate ∧
  decodeBus 0b001 0x00 = .readData1 ∧ decodeBus 0b011 0x00 = .readCtrl ∧ decodeBus 0b110 0x2A = .writeData2 0x2A

/-! The machine as a whole. -/

/-- One step takes the first event and runs the operation it decodes to on the state without that event; with no event
it changes nothing. The way events are delivered is the model's choice (assumption log 4). -/
def Obligations.StepRunsTheDecodedEvent : Prop :=
  ∀ (s : State),
    (s.inputs = [] → step s = .next s) ∧
    (∀ (e : Input) (rest : List Input), s.inputs = e :: rest →
      step s = exec (decode s.params.variant e) { s with inputs := rest }) ∧
    (∀ (i : Instr) (e : Input), i.wellFormed s.params.variant = true → encode i = some e →
      step { s with inputs := e :: s.inputs } = exec i s)

/-- Every described operation completes, with the parameters and the events still to come unchanged; every other is
refused (R212; the two refusals are decisions of the spec, assumption log 8 and 9). -/
def Obligations.DescribedOperationsComplete : Prop :=
  ∀ (i : Instr) (s : State),
    (i.describedOn s.params.variant = true →
      ∃ t, exec i s = .next t ∧ t.params = s.params ∧ t.inputs = s.inputs) ∧
    (i.describedOn s.params.variant = false → ∃ r, exec i s = .refused r)

/-- The two operations the spec has the model refuse, each under a name of its own (assumption log 8 and 9). -/
def Obligations.UndescribedOperationsAreRefused : Prop :=
  ∀ (s : State),
    exec .readCtrl s = .refused .controlPortRead ∧
    exec .readbackLate s = .refused .readbackUndescribed ∧
    (s.params.variant = .late →
      exec .readbackEarly s = .refused .readbackUndescribed ∧
      ∀ (aa : BitVec 2) (mmm : BitVec 3) (d : BitVec 1),
        exec (.writeCtrl (controlWord 3 aa mmm d)) s = .refused .readbackUndescribed)

/-- R87: on `Early` every word with channel field 3, however it arrives, leaves the whole state as it was. -/
def Obligations.ReadbackIsNoOpOnEarly : Prop :=
  ∀ (s : State), s.params.variant = .early →
    exec .readbackEarly s = .next s ∧
    ∀ (aa : BitVec 2) (mmm : BitVec 3) (d : BitVec 1),
      exec (decodeControl s.params.variant (controlWord 3 aa mmm d)) s = .next s ∧
      exec (.writeCtrl (controlWord 3 aa mmm d)) s = .next s

/-- A bus write of port 3, whatever its byte, is WRITE_CTRL of that byte, and does what the control word it carries does
when it reaches the decoder as an event of its own (R43, R80). The port number and the bus code are the spec's own
(decision D2, assumption log 21). -/
def Obligations.PortThreeWriteRunsTheControlWord : Prop :=
  ∀ (b : Byte) (s : State),
    decode s.params.variant (.bus 0b111 b) = .writeCtrl b ∧
    exec (.writeCtrl b) s = exec (decodeControl s.params.variant b) s

/-- R10, R52: what an operation makes of a channel depends on that channel and on the parameters alone. -/
def Obligations.ChannelsNeverObserveOneAnother : Prop :=
  ∀ (i : Instr) (c : Channel) (s₁ s₂ t₁ t₂ : State),
    s₁.params = s₂.params → s₁.chan c = s₂.chan c →
    exec i s₁ = .next t₁ → exec i s₂ = .next t₂ → t₁.chan c = t₂.chan c

/-- The columns of R30: which fields each event can write. `gate` and the fields not named keep their value, and so do
the other channels where the event is addressed to one. -/
def Obligations.EventsWriteOnlyTheirFields : Prop :=
  ∀ (i : Instr) (c : Channel) (s t : State), exec i s = .next t →
    (∀ a f d, (i.atDecoder s.params.variant).modesetOperands = some (c, a, f, d) →
      s.SameBut c t ∧ (t.chan c).countLatch = (s.chan c).countLatch ∧ (t.chan c).gate = (s.chan c).gate) ∧
    (i.atDecoder s.params.variant = latchInstr c →
      s.SameBut c t ∧
      t.chan c = { s.chan c with countLatch := (t.chan c).countLatch, latched := (t.chan c).latched }) ∧
    (∀ b, i = writeInstr b c →
      s.SameBut c t ∧
      t.chan c = { s.chan c with
        countRegister := (t.chan c).countRegister, output := (t.chan c).output, armed := (t.chan c).armed,
        loadPhase := (t.chan c).loadPhase, loadState := (t.chan c).loadState,
        countingState := (t.chan c).countingState }) ∧
    (i = readInstr c →
      (∀ c', c' ≠ c → t.chan c' = s.chan c') ∧
      t.chan c = { s.chan c with latched := (t.chan c).latched, readState := (t.chan c).readState }) ∧
    (∀ g, i = .setGate c g →
      s.SameBut c t ∧
      t.chan c = { s.chan c with
        gate := (t.chan c).gate, output := (t.chan c).output, countingState := (t.chan c).countingState }) ∧
    (i = .chTick c → s.SameBut c t) ∧
    (i = .tick ∨ i = .chTick c →
      t.dataOut = s.dataOut ∧
      t.chan c = { s.chan c with
        countingElement := (t.chan c).countingElement, output := (t.chan c).output,
        ceUndefined := (t.chan c).ceUndefined, countingState := (t.chan c).countingState }) ∧
    (i = .reset → t.dataOut = s.dataOut ∧ (t.chan c).gate = (s.chan c).gate)

/-! Control words. -/

/-- The effect of a mode set (R83 with the spec's own additions D7; mode bits 6 and 7 by D4): the whole channel record
written out, and nothing else changed. Holds for all 72 MODESET rows and for a bus write of port 3 that carries one. -/
def Obligations.ModeSetEffect : Prop :=
  ∀ (i : Instr) (s : State) (c : Channel) (a : Access) (f : ModeField) (d : Bool),
    (i.atDecoder s.params.variant).modesetOperands = some (c, a, f, d) →
    ∃ t, exec i s = .next t ∧ s.SameBut c t ∧
      t.chan c = {
        countRegister := 0x0000, countingElement := 0x0000, countLatch := (s.chan c).countLatch, latched := false,
        mode := mapMode f, access := a, bcd := d, loadMask := loadMaskOf s.params.variant (mapMode f),
        output := powerOnLevel (mapMode f), gate := (s.chan c).gate, armed := false, loadPhase := .initial,
        loadState := .firstByte, ceUndefined := false, readState := .firstByte,
        countingState := .waitingForReload }

/-- R84 and R85: the load mask and the output level a mode set leaves, for the six modes of R63. -/
def Obligations.ModeSetMaskAndLevel : Prop :=
  ∀ (i : Instr) (s : State) (c : Channel) (a : Access) (f : ModeField) (d : Bool),
    (i.atDecoder s.params.variant).modesetOperands = some (c, a, f, d) →
    ∃ t, exec i s = .next t ∧
      ((t.chan c).mode = .mode3 ∧ s.params.variant = .late → (t.chan c).loadMask = 0xFFFE) ∧
      (¬ ((t.chan c).mode = .mode3 ∧ s.params.variant = .late) → (t.chan c).loadMask = 0xFFFF) ∧
      ((t.chan c).mode = .mode0 → (t.chan c).output = .low) ∧
      ((t.chan c).mode ≠ .mode0 → (t.chan c).output = .high)

/-- The mode a control word stores (R63; mode bits 6 and 7 by the spec's decision D4, assumption log 10). -/
def Obligations.ModeBitsSixAndSevenStoreModesTwoAndThree : Prop :=
  ∀ (i : Instr) (s : State) (c : Channel) (a : Access) (f : ModeField) (d : Bool),
    (i.atDecoder s.params.variant).modesetOperands = some (c, a, f, d) →
    ∃ t, exec i s = .next t ∧
      (t.chan c).mode = match f with
        | .f0 => .mode0 | .f1 => .mode1 | .f2 => .mode2 | .f3 => .mode3 | .f4 => .mode4 | .f5 => .mode5
        | .f6 => .mode2 | .f7 => .mode3

/-- R233: after the same mode set, two channels with the same gate level are equal but for `count_latch`, and hold no
snapshot. That the old `count_register` and `read_state` leave no trace is decision D7 (assumption log 11). -/
def Obligations.ModeSetForgetsHistory : Prop :=
  ∀ (i : Instr) (s₁ s₂ t₁ t₂ : State) (c : Channel) (a : Access) (f : ModeField) (d : Bool),
    s₁.params.variant = s₂.params.variant → (s₁.chan c).gate = (s₂.chan c).gate →
    (i.atDecoder s₁.params.variant).modesetOperands = some (c, a, f, d) →
    exec i s₁ = .next t₁ → exec i s₂ = .next t₂ →
    (t₁.chan c).latched = false ∧ (t₂.chan c).latched = false ∧
    t₂.chan c = { t₁.chan c with countLatch := (t₂.chan c).countLatch }

/-- R13, R233: the value of `count_latch` without a snapshot is unobservable. Every operation takes two states that no
event tells apart to two such states, with the same byte returned and the same output levels. -/
def Obligations.StaleSnapshotIsUnobservable : Prop :=
  ∀ (i : Instr) (s₁ s₂ : State), s₁.SameVisible s₂ →
    match exec i s₁, exec i s₂ with
    | .next t₁, .next t₂ => t₁.SameVisible t₂ ∧ ∀ c, (t₁.chan c).output = (t₂.chan c).output
    | .refused r₁, .refused r₂ => r₁ = r₂
    | _, _ => False

/-- R49: a mode set, and a latch command, run twice in a row leave what they leave run once. -/
def Obligations.ModeSetAndLatchAreIdempotent : Prop :=
  ∀ (i : Instr) (s : State),
    (i.atDecoder s.params.variant).modesetOperands.isSome = true ∨
      (∃ c, i.atDecoder s.params.variant = latchInstr c) →
    ∃ t, exec i s = .next t ∧ exec i t = .next t

/-- R81 and R121: LATCH takes the snapshot if the channel holds none, changes nothing if it holds one, and changes
nothing else; every word `cc00xxxx` with `cc` not 3 is this command. -/
def Obligations.LatchTakesTheFirstSnapshotOnly : Prop :=
  ∀ (i : Instr) (s : State) (c : Channel), i.atDecoder s.params.variant = latchInstr c ∨ i = .latchOp c →
    (∃ t, exec i s = .next t ∧ s.SameBut c t ∧
      ((s.chan c).latched = true → t = s) ∧
      ((s.chan c).latched = false →
        t.chan c = { s.chan c with countLatch := (s.chan c).countingElement, latched := true })) ∧
    ∀ (mmm : BitVec 3) (d : BitVec 1),
      decodeControl s.params.variant (controlWord (channelBits c) 0 mmm d) = latchInstr c

/-! The count read. -/

/-- READ_DATA (R122 to R124, decisions D18): the byte returned, the sequencer and the release of the snapshot in the
three access modes, and nothing else changed. -/
def Obligations.ReadDataReturnsTheByteInSequence : Prop :=
  ∀ (c : Channel) (s : State), ∃ t, exec (readInstr c) s = .next t ∧
    (∀ c', c' ≠ c → t.chan c' = s.chan c') ∧ t.params = s.params ∧ t.inputs = s.inputs ∧
    (let ch := s.chan c
     let src := if ch.latched = true then ch.countLatch else ch.countingElement
     (ch.access = .lsb → t.dataOut = some (src.extractLsb 7 0) ∧ t.chan c = { ch with latched := false }) ∧
     (ch.access = .msb → t.dataOut = some (src.extractLsb 15 8) ∧ t.chan c = { ch with latched := false }) ∧
     (ch.access = .lsbMsb → ch.readState = .firstByte →
       t.dataOut = some (src.extractLsb 7 0) ∧ t.chan c = { ch with readState := .secondByte }) ∧
     (ch.access = .lsbMsb → ch.readState = .secondByte →
       t.dataOut = some (src.extractLsb 15 8) ∧
       t.chan c = { ch with readState := .firstByte, latched := false }))

/-- R51: a latch and two reads give one consistent 16-bit value, low byte first, however many clock pulses fall between
them; the second read releases the snapshot. -/
def Obligations.LatchedReadIsUntornByTicks : Prop :=
  ∀ (c : Channel) (j k : Nat) (s : State),
    (s.chan c).access = .lsbMsb → (s.chan c).readState = .firstByte → (s.chan c).latched = false →
    ∃ t₁ t₂,
      execAll (latchInstr c :: (List.replicate j .tick ++ [readInstr c])) s = .next t₁ ∧
      execAll (List.replicate k .tick ++ [readInstr c]) t₁ = .next t₂ ∧
      (∃ lo hi : Byte, t₁.dataOut = some lo ∧ t₂.dataOut = some hi ∧
        hi ++ lo = (s.chan c).countingElement) ∧
      (t₁.chan c).latched = true ∧ (t₂.chan c).latched = false ∧ (t₂.chan c).readState = .firstByte

/-- R127 (b): a snapshot stays, unchanged, until the channel is read, reprogrammed or reset. -/
def Obligations.SnapshotStaysUntilReadOrReprogrammed : Prop :=
  ∀ (i : Instr) (c : Channel) (s t : State), exec i s = .next t → (s.chan c).latched = true →
    ((t.chan c).latched = true ∧ (t.chan c).countLatch = (s.chan c).countLatch) ∨
    i = readInstr c ∨ i = .reset ∨
    ∃ a f d, (i.atDecoder s.params.variant).modesetOperands = some (c, a, f, d)

/-! The count load. -/

/-- WRITE_DATA in the single-byte access modes (R101, R102): the byte takes its half of `count_register` and the load
completes. -/
def Obligations.SingleByteWriteCompletesTheLoad : Prop :=
  ∀ (b : Byte) (c : Channel) (s : State), (s.chan c).access ≠ .lsbMsb →
    ∃ t, exec (writeInstr b c) s = .next t ∧ s.SameBut c t ∧
      ((s.chan c).access = .lsb →
        t.chan c = Chan.completeLoad
          { s.chan c with countRegister := (s.chan c).countRegister.extractLsb 15 8 ++ b }) ∧
      ((s.chan c).access = .msb →
        t.chan c = Chan.completeLoad
          { s.chan c with countRegister := b ++ (s.chan c).countRegister.extractLsb 7 0 })

/-- WRITE_DATA in LSB-then-MSB access (R103; the return to the first byte is decision D8): the first byte waits, and in
mode 0 stops the count with the output LOW; the second completes the load. -/
def Obligations.TwoByteWriteWaitsForTheSecondByte : Prop :=
  ∀ (b : Byte) (c : Channel) (s : State), (s.chan c).access = .lsbMsb →
    ∃ t, exec (writeInstr b c) s = .next t ∧ s.SameBut c t ∧
      ((s.chan c).loadState = .firstByte → (s.chan c).mode ≠ .mode0 →
        t.chan c = { s.chan c with
          countRegister := (s.chan c).countRegister.extractLsb 15 8 ++ b, loadState := .secondByte }) ∧
      ((s.chan c).loadState = .firstByte → (s.chan c).mode = .mode0 →
        t.chan c = { s.chan c with
          countRegister := (s.chan c).countRegister.extractLsb 15 8 ++ b, loadState := .secondByte,
          output := .low, countingState := .waitingForReload }) ∧
      ((s.chan c).loadState = .secondByte →
        t.chan c = Chan.completeLoad { s.chan c with
          countRegister := b ++ (s.chan c).countRegister.extractLsb 7 0, loadState := .firstByte })

/-- R105: the first load since the last mode set, whatever the gate level. Modes 1 and 5 wait for the trigger, the others
load on the very next tick. -/
def Obligations.FirstLoadArmsTheChannel : Prop :=
  ∀ (c : Channel) (s : State), (s.chan c).loadPhase = .initial →
    ∃ t, exec (.completeLoad c) s = .next t ∧ s.SameBut c t ∧
      ((s.chan c).mode = .mode1 ∨ (s.chan c).mode = .mode5 →
        t.chan c = { s.chan c with
          armed := true, loadPhase := .subsequent, countingState := .waitingForLoadTrigger }) ∧
      (¬ ((s.chan c).mode = .mode1 ∨ (s.chan c).mode = .mode5) →
        t.chan c = { s.chan c with
          armed := true, loadPhase := .subsequent, countingState := .waitingForLoadCycle } ∧
        ∃ u, exec (.chTick c) t = .next u ∧ (u.chan c).countingState = .counting ∧
          (u.chan c).countingElement = (s.chan c).countRegister &&& (s.chan c).loadMask)

/-- R106: a later load, by a write in LSB-only or MSB-only access. Modes 0 and 4 reload on the very next tick; in the
other modes nothing but `count_register` changes. -/
def Obligations.SubsequentLoadDisturbsOnlyModesZeroAndFour : Prop :=
  ∀ (b : Byte) (c : Channel) (s : State),
    (s.chan c).loadPhase = .subsequent → (s.chan c).access ≠ .lsbMsb →
    ∃ t, exec (writeInstr b c) s = .next t ∧ s.SameBut c t ∧
      (let cr : Count :=
         if (s.chan c).access = .lsb then (s.chan c).countRegister.extractLsb 15 8 ++ b
         else b ++ (s.chan c).countRegister.extractLsb 7 0
       ((s.chan c).mode = .mode0 ∨ (s.chan c).mode = .mode4 →
         t.chan c = { s.chan c with countRegister := cr, countingState := .waitingForLoadCycle } ∧
         ∃ u, exec (.chTick c) t = .next u ∧ (u.chan c).countingElement = cr &&& (s.chan c).loadMask ∧
           (u.chan c).countingState = .counting) ∧
       (¬ ((s.chan c).mode = .mode0 ∨ (s.chan c).mode = .mode4) →
         t.chan c = { s.chan c with countRegister := cr }))

/-- COMPLETE_LOAD in load phase `Subsequent` (R106). -/
def Obligations.CompleteLoadOfASubsequentLoad : Prop :=
  ∀ (c : Channel) (s : State), (s.chan c).loadPhase = .subsequent →
    ∃ t, exec (.completeLoad c) s = .next t ∧ s.SameBut c t ∧
      ((s.chan c).mode = .mode0 ∨ (s.chan c).mode = .mode4 →
        t.chan c = { s.chan c with countingState := .waitingForLoadCycle }) ∧
      (¬ ((s.chan c).mode = .mode0 ∨ (s.chan c).mode = .mode4) → t = s)

/-- R242: between the two bytes of a load in mode 0 the channel is frozen with the output LOW, for any number of
ticks. -/
def Obligations.ModeZeroIsFrozenBetweenTheTwoBytes : Prop :=
  ∀ (b : Byte) (c : Channel) (n : Nat) (s : State),
    (s.chan c).access = .lsbMsb → (s.chan c).loadState = .firstByte → (s.chan c).mode = .mode0 →
    ∃ t u, exec (writeInstr b c) s = .next t ∧ execAll (List.replicate n .tick) t = .next u ∧
      u.chan c = t.chan c ∧ (u.chan c).output = .low ∧
      (u.chan c).countingElement = (s.chan c).countingElement

/-! The gate. -/

/-- R143, with R141 and R144: the level is always stored; the edges act outside `WaitingForReload` only, the rising edge in
modes 1, 2, 3 and 5 and the falling edge in modes 2 and 3. A repeated level and the falling edge of mode 4 are decisions
of the spec and stand in `GateChangesWithoutSideEffect`. -/
def Obligations.SetGateStoresLevelAndActsOnEdges : Prop :=
  ∀ (c : Channel) (g : Level) (s : State), ∃ t, exec (.setGate c g) s = .next t ∧ s.SameBut c t ∧
    (let ch := s.chan c
     let rising := ch.gate = .low ∧ g = .high ∧ ch.countingState ≠ .waitingForReload
     let falling := ch.gate = .high ∧ g = .low ∧ ch.countingState ≠ .waitingForReload
     (rising ∧ ch.mode ≠ .mode0 ∧ ch.mode ≠ .mode4 →
       t.chan c = { ch with gate := g, countingState := .waitingForLoadCycle }) ∧
     (falling ∧ (ch.mode = .mode2 ∨ ch.mode = .mode3) →
       t.chan c = { ch with gate := g, countingState := .waitingForGate, output := .high }) ∧
     (rising ∧ (ch.mode = .mode0 ∨ ch.mode = .mode4) → t.chan c = { ch with gate := g }) ∧
     (falling ∧ (ch.mode = .mode0 ∨ ch.mode = .mode1 ∨ ch.mode = .mode5) → t.chan c = { ch with gate := g }) ∧
     (ch.countingState = .waitingForReload → t.chan c = { ch with gate := g }))

/-- R142 (decision D23) and R145 (decision D16): a repeated level changes nothing, and in `WaitingForReload` and in modes
0 and 4 a gate change stores the level and does nothing else. -/
def Obligations.GateChangesWithoutSideEffect : Prop :=
  ∀ (c : Channel) (g : Level) (s : State), ∃ t, exec (.setGate c g) s = .next t ∧
    ((s.chan c).gate = g → t = s) ∧
    ((s.chan c).countingState = .waitingForReload ∨ (s.chan c).mode = .mode0 ∨ (s.chan c).mode = .mode4 →
      t = s.setChan c { s.chan c with gate := g })

/-- R147 (b): in modes 2 and 3 with the gate HIGH, a pulse to LOW and back with no tick in it forces the output HIGH and
makes the next tick reload from `count_register`, from every state but `WaitingForReload`. The HIGH level of the load
cycle is decision D11, whose mode 3 row the spec takes from general knowledge (assumption log 17). -/
def Obligations.GatePulseRestartsPeriodicModes : Prop :=
  ∀ (c : Channel) (s : State),
    ((s.chan c).mode = .mode2 ∨ (s.chan c).mode = .mode3) → (s.chan c).gate = .high →
    (s.chan c).countingState ≠ .waitingForReload →
    ∃ t, execAll [.setGate c .low, .setGate c .high, .tick] s = .next t ∧
      t.chan c = { s.chan c with
        countingElement := (s.chan c).countRegister &&& (s.chan c).loadMask, output := .high,
        ceUndefined := false, countingState := .counting }

/-! The tick. -/

/-- R160: a TICK advances every channel once, and is the three CH_TICK in any order. -/
def Obligations.TickIsThreeChannelTicksInAnyOrder : Prop :=
  ∀ (s : State), ∃ t, exec .tick s = .next t ∧
    (∀ c, t.chan c = (s.chan c).tick s.params) ∧
    t.params = s.params ∧ t.inputs = s.inputs ∧ t.dataOut = s.dataOut ∧
    ∀ a b c : Channel, a ≠ b → b ≠ c → a ≠ c →
      execAll [.chTick a, .chTick b, .chTick c] s = .next t

/-- R161, R165, R170 (the test for the first cycle is decision D9, the idle states decision D24): the one INTERNAL
operation that a CH_TICK runs, or none. -/
def Obligations.ChTickSelectsOneInternalOperation : Prop :=
  ∀ (c : Channel) (s : State),
    ((s.chan c).countingState = .waitingForLoadCycle → exec (.chTick c) s = exec (.loadCycle c) s) ∧
    ((s.chan c).countingState = .waitingForLoadTrigger →
      (s.chan c).armed = true → (s.chan c).ceUndefined = false →
      exec (.chTick c) s = exec (.placeholderLoad c) s) ∧
    ((s.chan c).countingState = .waitingForLoadTrigger →
      ¬ ((s.chan c).armed = true ∧ (s.chan c).ceUndefined = false) →
      exec (.chTick c) s = exec (countModeInstr c (s.chan c).mode) s) ∧
    ((s.chan c).countingState = .counting ∨ (s.chan c).countingState = .countingTriggered →
      exec (.chTick c) s = exec (countModeInstr c (s.chan c).mode) s) ∧
    ((s.chan c).countingState = .waitingForReload ∨ (s.chan c).countingState = .waitingForGate →
      exec (.chTick c) s = .next s)

/-- CH_TICK completes with the tick of its channel and changes no other. -/
def Obligations.ChTickAdvancesOneChannel : Prop :=
  ∀ (c : Channel) (s : State), ∃ t, exec (.chTick c) s = .next t ∧ s.SameBut c t ∧
    t.chan c = (s.chan c).tick s.params ∧
    ∃ u, exec .tick s = .next u ∧ u.chan c = t.chan c

/-- The load cycle (R162, R163; the levels are decision D11): the counter takes `count_register` through the mask, the
output its post-reload level, and nothing is decremented. -/
def Obligations.LoadCycleLoadsWithoutCounting : Prop :=
  ∀ (c : Channel) (s : State), ∃ t, exec (.loadCycle c) s = .next t ∧ s.SameBut c t ∧
    t.chan c = { s.chan c with
      countingElement := (s.chan c).countRegister &&& (s.chan c).loadMask
      countingState := .counting
      ceUndefined := false
      output := match (s.chan c).mode with
        | .mode0 => .low | .mode1 => .low | .mode2 => .high | .mode3 => .high | .mode4 => .high | .mode5 => .high }

/-- The placeholder load (R164): for every value of the open parameter `PLACEHOLDER`. -/
def Obligations.PlaceholderLoadMarksTheCounter : Prop :=
  ∀ (c : Channel) (s : State), ∃ t, exec (.placeholderLoad c) s = .next t ∧ s.SameBut c t ∧
    t.chan c = { s.chan c with countingElement := s.params.placeholder, ceUndefined := true }

/-- R243, 90_conflicts.md C4: the undefined window of modes 1 and 5 opens on the first tick after the first load and
lasts, however many ticks pass, until a rising gate edge and a load cycle. -/
def Obligations.UndefinedWindowLastsUntilTheTrigger : Prop :=
  ∀ (p : Params) (n : Nat) (ch : Chan),
    (ch.mode = .mode1 ∨ ch.mode = .mode5) → ch.countingState = .waitingForLoadTrigger →
    ch.armed = true → ch.ceUndefined = false → ch.gate = .low →
    (Chan.ticks p (n + 1) ch).ceUndefined = true ∧
    (Chan.ticks p (n + 1) ch).countingState = .waitingForLoadTrigger ∧
    (Chan.ticks p 1 ch).countingElement = p.placeholder ∧
    ((Chan.ticks p (n + 1) ch).setGate .high).ceUndefined = true ∧
    (((Chan.ticks p (n + 1) ch).setGate .high).tick p).ceUndefined = false ∧
    (((Chan.ticks p (n + 1) ch).setGate .high).tick p).countingElement = ch.countRegister &&& ch.loadMask

/-! The counting rules. -/

/-- Mode 0 (R181; counting past zero is decision D12). -/
def Obligations.ModeZeroCountsAndRaisesOutputAtZero : Prop :=
  ∀ (c : Channel) (s : State), ∃ t, exec (.countMode0 c) s = .next t ∧ s.SameBut c t ∧
    (let ch := s.chan c
     let ce := dec ch.countingElement ch.bcd
     (ch.gate = .low → t = s) ∧
     (ch.gate = .high → ce ≠ 0 → t.chan c = { ch with countingElement := ce }) ∧
     (ch.gate = .high → ce = 0 → t.chan c = { ch with countingElement := 0, output := .high }))

/-- Mode 1 (R184; counting past zero is decision D12): whatever the gate level. -/
def Obligations.ModeOneCountsWhateverTheGate : Prop :=
  ∀ (c : Channel) (s : State), ∃ t, exec (.countMode1 c) s = .next t ∧ s.SameBut c t ∧
    (let ch := s.chan c
     let ce := dec ch.countingElement ch.bcd
     (¬ (ce = 0 ∧ ch.armed = true) → t.chan c = { ch with countingElement := ce }) ∧
     (ce = 0 ∧ ch.armed = true → t.chan c = { ch with countingElement := 0, output := .high }))

/-- Mode 2 (R187). -/
def Obligations.ModeTwoPulsesLowAtOne : Prop :=
  ∀ (c : Channel) (s : State), ∃ t, exec (.countMode2 c) s = .next t ∧ s.SameBut c t ∧
    (let ch := s.chan c
     let ce := dec ch.countingElement ch.bcd
     (ch.gate = .low → t = s) ∧
     (ch.gate = .high → ce ≠ 1 → t.chan c = { ch with countingElement := ce }) ∧
     (ch.gate = .high → ce = 1 →
       t.chan c = { ch with countingElement := 1, output := .low, countingState := .waitingForLoadCycle }))

/-- R186, the source's property: the tick that makes the counter one pulls the output LOW, and the tick after it reloads
the count and returns the output HIGH, so that the pulse lasts exactly one tick. -/
def Obligations.RateGeneratorReloadsAfterOneLowTick : Prop :=
  ∀ (c : Channel) (s : State),
    (s.chan c).mode = .mode2 → (s.chan c).countingState = .counting → (s.chan c).gate = .high →
    ∃ t, exec .tick s = .next t ∧ (t.chan c).countingElement = dec (s.chan c).countingElement (s.chan c).bcd ∧
      ((t.chan c).countingElement ≠ 1 →
        (t.chan c).output = (s.chan c).output ∧ (t.chan c).countingState = .counting) ∧
      ((t.chan c).countingElement = 1 →
        (t.chan c).output = .low ∧ (t.chan c).countingState = .waitingForLoadCycle ∧
        ∃ u, exec .tick t = .next u ∧ (u.chan c).output = .high ∧ (u.chan c).countingState = .counting ∧
          (u.chan c).countingElement = (s.chan c).countRegister &&& (s.chan c).loadMask ∧
          ((s.chan c).loadMask = 0xFFFF → (u.chan c).countingElement = (s.chan c).countRegister))

/-- Mode 3 (R190 to R193; decisions D13, D14, D15): the even rule, the odd rule of `Early` and the odd rule of `Late`. -/
def Obligations.ModeThreeStepsByParityAndVariant : Prop :=
  ∀ (c : Channel) (s : State), ∃ t, exec (.countMode3 c) s = .next t ∧ s.SameBut c t ∧
    (let ch := s.chan c
     let reloaded := ch.countRegister &&& ch.loadMask
     let after := fun (ce : Count) =>
       if ce = 0 then { ch with countingElement := reloaded, output := toggle ch.output }
       else { ch with countingElement := ce }
     let d1 := dec ch.countingElement ch.bcd
     let d2 := dec d1 ch.bcd
     let d3 := dec d2 ch.bcd
     (ch.gate = .low → t = s) ∧
     (ch.gate = .high → ch.countRegister.getLsbD 0 = false → t.chan c = after d2) ∧
     (ch.gate = .high → ch.countRegister.getLsbD 0 = true → s.params.variant = .early →
       t.chan c = after
         (if ch.countingElement.getLsbD 0 = true then (if ch.output = .high then d1 else d3) else d2)) ∧
     (ch.gate = .high → ch.countRegister.getLsbD 0 = true → s.params.variant = .late →
       (ch.output = .low → t.chan c = after d2) ∧
       (ch.output = .high → ch.countingElement = 0 →
         t.chan c = { ch with countingElement := reloaded, output := .low }) ∧
       (ch.output = .high → ch.countingElement ≠ 0 → t.chan c = { ch with countingElement := d2 })))

/-- Modes 4 and 5 (R198, R200): the same strobe rule, gated in mode 4 only. -/
def Obligations.StrobeModesPullLowOnZeroOnly : Prop :=
  ∀ (c : Channel) (s : State), ∃ t u,
    exec (.countMode4 c) s = .next t ∧ s.SameBut c t ∧ exec (.countMode5 c) s = .next u ∧ s.SameBut c u ∧
    (let ch := s.chan c
     let ce := dec ch.countingElement ch.bcd
     (ch.gate = .low → t = s) ∧
     (ch.gate = .high → t = u) ∧
     (ce = 0 → u.chan c = { ch with countingElement := 0, output := .low }) ∧
     (ce ≠ 0 → u.chan c = { ch with countingElement := ce, output := .high }))

/-- R197, the source's description of mode 4 on a running channel: a counting tick with the gate HIGH leaves the output
LOW exactly if the counter is zero, the counter wraps and is not reloaded, and a count written meanwhile leads to a load
cycle on the next tick, whether it is the first load or a later one. The HIGH level of the load cycle is decision D11
(assumption log 17): with a count of 0 the output is HIGH after it although the counter is zero. -/
def Obligations.SoftwareTriggeredStrobe : Prop :=
  ∀ (b : Byte) (c : Channel) (s : State), (s.chan c).mode = .mode4 →
    ((s.chan c).countingState = .counting → (s.chan c).gate = .high →
      ∃ t, exec .tick s = .next t ∧ (t.chan c).countingState = .counting ∧
        (t.chan c).countingElement = dec (s.chan c).countingElement (s.chan c).bcd ∧
        ((t.chan c).output = .low ↔ (t.chan c).countingElement = 0)) ∧
    ((s.chan c).countingState = .counting → (s.chan c).gate = .low →
      ∃ t, exec .tick s = .next t ∧ t.chan c = s.chan c) ∧
    ((s.chan c).access ≠ .lsbMsb ∨ (s.chan c).loadState = .secondByte →
      ∃ t u, exec (writeInstr b c) s = .next t ∧ exec .tick t = .next u ∧
        (u.chan c).countingElement = (t.chan c).countRegister &&& (t.chan c).loadMask ∧
        (u.chan c).countingState = .counting ∧ (u.chan c).output = .high)

/-! Arithmetic. -/

/-- `dec` in BCD on decimal digits is decimal subtraction of one modulo 10000 and keeps the digits decimal (R166, with
the digit rule of decision D17); in binary it is subtraction of one modulo 65536. -/
def Obligations.DecrementIsSubtractionOfOne : Prop :=
  ∀ (v : Count),
    (dec v false).toNat = (v.toNat + 65535) % 65536 ∧
    (ValidBcd v → ValidBcd (dec v true) ∧ bcdValue (dec v true) = (bcdValue v + 9999) % 10000)

/-- R168, R169: `k` decrements subtract `k`, and the binary and the decimal cycle come back after 65536 and 10000. -/
def Obligations.IteratedDecrementCycles : Prop :=
  ∀ (k : Nat) (v : Count),
    (decK k v false).toNat = (v.toNat + 65535 * k) % 65536 ∧
    (ValidBcd v → ValidBcd (decK k v true) ∧ bcdValue (decK k v true) = (bcdValue v + 9999 * k) % 10000) ∧
    decK 65536 v false = v ∧ (ValidBcd v → decK 10000 v true = v)

/-- R29 item 9: while a channel counts, decimal digits stay decimal. -/
def Obligations.DecimalCounterStaysDecimal : Prop :=
  ∀ (p : Params) (n : Nat) (ch : Chan), ch.Inv p.variant → ch.bcd = true →
    ValidBcd ch.countRegister → ValidBcd ch.countingElement → ValidBcd p.placeholder →
    ValidBcd (Chan.ticks p n ch).countingElement

/-! Runs. The count `N` is what `count_register` asks for, with 0 for the whole cycle of 65536 or 10000. -/

/-- R182 (a), R251 and the source's property S2: after the load cycle of a count `N` the counter goes down by one at each
tick and the output is LOW until it reaches zero, at tick `N` (the LOW level of the load cycle is decision D11). In mode 0
with the gate HIGH, in mode 1 whatever the gate. -/
def Obligations.OutputRisesAfterCountTicks : Prop :=
  ∀ (p : Params) (ch : Chan) (k : Nat), ch.Inv p.variant →
    (ch.mode = .mode0 ∧ ch.gate = .high ∨ ch.mode = .mode1) → ch.countingState = .waitingForLoadCycle →
    ValidCount ch.bcd ch.countRegister →
    let N := loadedCount ch.bcd ch.countRegister
    k ≤ N →
    countValue ch.bcd (Chan.ticks p (k + 1) ch).countingElement = (N - k) % cycleLength ch.bcd ∧
    ((Chan.ticks p (k + 1) ch).output = .high ↔ k = N)

/-- R187, R251: with a count `N` of two or more the rate generator has period `N`, the output LOW for exactly the last
tick of it. -/
def Obligations.RateGeneratorPeriod : Prop :=
  ∀ (p : Params) (ch : Chan) (k : Nat), ch.Inv p.variant →
    ch.mode = .mode2 → ch.gate = .high → ch.countingState = .waitingForLoadCycle →
    ValidCount ch.bcd ch.countRegister →
    let N := loadedCount ch.bcd ch.countRegister
    2 ≤ N → k < N →
    countValue ch.bcd (Chan.ticks p (k + 1) ch).countingElement = (N - k) % cycleLength ch.bcd ∧
    ((Chan.ticks p (k + 1) ch).output = .low ↔ k + 1 = N) ∧
    Chan.ticks p N (ch.tick p) = ch.tick p

/-- R190, R194 and the source's property S4: with an even count `N` the square wave toggles exactly every `N/2` ticks, on
both variants: HIGH for the first half of each period and LOW for the second, the counter going down by two in each half
(the mechanics are decision D13, the level of the first half is decision D11; assumption log 17, 19). -/
def Obligations.SquareWaveEvenHalfPeriod : Prop :=
  ∀ (p : Params) (ch : Chan) (k : Nat), ch.Inv p.variant →
    ch.mode = .mode3 → ch.gate = .high → ch.countingState = .waitingForLoadCycle →
    ValidCount ch.bcd ch.countRegister → ch.countRegister.getLsbD 0 = false →
    let N := loadedCount ch.bcd ch.countRegister
    k < N →
    ((Chan.ticks p k (ch.tick p)).output = .high ↔ k < N / 2) ∧
    countValue ch.bcd (Chan.ticks p k (ch.tick p)).countingElement = (N - 2 * (k % (N / 2))) % cycleLength ch.bcd ∧
    Chan.ticks p (N / 2) (ch.tick p) = { ch.tick p with output := .low } ∧
    Chan.ticks p N (ch.tick p) = ch.tick p

/-- R191, R192, R194: with an odd count `N` of three or more both variants give a high half of `(N+1)/2` ticks and a low
half of `(N-1)/2`, a period of `N` (the stepping rules are decisions D13 to D15, the level of the first half D11). -/
def Obligations.SquareWaveOddPeriodOnBothVariants : Prop :=
  ∀ (p : Params) (ch : Chan) (k : Nat), ch.Inv p.variant →
    ch.mode = .mode3 → ch.gate = .high → ch.countingState = .waitingForLoadCycle →
    ValidCount ch.bcd ch.countRegister → ch.countRegister.getLsbD 0 = true →
    let N := loadedCount ch.bcd ch.countRegister
    3 ≤ N → k < N →
    ((Chan.ticks p k (ch.tick p)).output = .high ↔ k < (N + 1) / 2) ∧
    Chan.ticks p N (ch.tick p) = ch.tick p

/-- R198, R200, R251: the strobe of modes 4 and 5 comes when the count has run out and lasts one tick (the HIGH
level of the load cycle is decision D11). -/
def Obligations.StrobeComesOnceCountRunsOut : Prop :=
  ∀ (p : Params) (ch : Chan) (k : Nat), ch.Inv p.variant →
    (ch.mode = .mode4 ∧ ch.gate = .high ∨ ch.mode = .mode5) → ch.countingState = .waitingForLoadCycle →
    ValidCount ch.bcd ch.countRegister →
    let N := loadedCount ch.bcd ch.countRegister
    k ≤ N + 1 →
    ((Chan.ticks p (k + 1) ch).output = .low ↔ k = N)

/-- R196 (c), R246: a running square wave whose counter is odd and whose count is even, as a count of the other parity
leaves it on `Early`, never toggles again by ticks alone. The behaviour follows from decision D13. -/
def Obligations.OddCounterUnderEvenCountNeverToggles : Prop :=
  ∀ (p : Params) (ch : Chan) (n : Nat),
    ch.mode = .mode3 → ch.countingState = .counting →
    ch.countRegister.getLsbD 0 = false → ch.countingElement.getLsbD 0 = true →
    (Chan.ticks p n ch).output = ch.output ∧ (Chan.ticks p n ch).countingElement.getLsbD 0 = true

/-! Reset and invariants. -/

/-- RESET (R230, decision D6): the whole channel record, from the open reset parameters, with the gate as it was. -/
def Obligations.ResetReinitialisesEveryChannel : Prop :=
  ∀ (s : State), ∃ t, exec .reset s = .next t ∧
    t.params = s.params ∧ t.inputs = s.inputs ∧ t.dataOut = s.dataOut ∧
    ∀ c, t.chan c = {
      countRegister := 0x0000, countingElement := 0x0000, countLatch := 0x0000, latched := false,
      mode := (s.params.channel c).resetMode, access := (s.params.channel c).resetAccess,
      bcd := (s.params.channel c).resetBcd,
      loadMask := loadMaskOf s.params.variant (s.params.channel c).resetMode,
      output := powerOnLevel (s.params.channel c).resetMode, gate := (s.chan c).gate, armed := false,
      loadPhase := .initial, loadState := .firstByte, ceUndefined := false, readState := .firstByte,
      countingState := .waitingForReload }

/-- R232: creation gives what RESET gives, and the gate level `GATE_INIT[c]`. `State.reset` is the instance with the
parameters the model chose (assumption log 1 to 3). -/
def Obligations.CreationIsResetWithInitialGate : Prop :=
  (∀ (p : Params),
    exec .reset (State.create p) = .next (State.create p) ∧
    (∀ c, ((State.create p).chan c).gate = (p.channel c).gateInit) ∧
    (State.create p).params = p ∧ (State.create p).dataOut = none) ∧
  State.reset = State.create Config.resetParams

/-- R29, R26: the invariant holds of every freshly created instance, that of `State.reset` among them. -/
def Obligations.CreatedInstanceMeetsInvariant : Prop :=
  (∀ (p : Params), (State.create p).Inv) ∧ State.reset.Inv

/-- R29, R26: every step keeps the invariant. -/
def Obligations.StepKeepsInvariant : Prop :=
  ∀ (s t : State), s.Inv → step s = .next t → t.Inv

/-- The table of R172: every change of `counting_state` by an operation that can be delivered is one of its rows. -/
def Obligations.CountingStateTransitionsAreTheTable : Prop :=
  ∀ (i : Instr) (c : Channel) (s t : State),
    s.Inv → i.wellFormed s.params.variant = true → exec i s = .next t →
    (t.chan c).countingState ≠ (s.chan c).countingState →
    let ch := s.chan c
    let cs := (t.chan c).countingState
    let completes := ∃ b, i = writeInstr b c ∧ (ch.access ≠ .lsbMsb ∨ ch.loadState = .secondByte)
    (cs = .waitingForReload ∧
      (i = .reset ∨ ∃ a f d, (i.atDecoder s.params.variant).modesetOperands = some (c, a, f, d))) ∨
    (cs = .waitingForReload ∧ ch.mode = .mode0 ∧ ch.access = .lsbMsb ∧ ch.loadState = .firstByte ∧
      ∃ b, i = writeInstr b c) ∨
    (ch.countingState = .waitingForReload ∧ cs = .waitingForLoadTrigger ∧ completes ∧
      ch.loadPhase = .initial ∧ (ch.mode = .mode1 ∨ ch.mode = .mode5)) ∨
    (ch.countingState = .waitingForReload ∧ cs = .waitingForLoadCycle ∧ completes ∧
      ch.loadPhase = .initial ∧ ch.mode ≠ .mode1 ∧ ch.mode ≠ .mode5) ∨
    (cs = .waitingForLoadCycle ∧ completes ∧ ch.loadPhase = .subsequent ∧
      (ch.mode = .mode0 ∨ ch.mode = .mode4)) ∨
    (ch.countingState ≠ .waitingForReload ∧ cs = .waitingForLoadCycle ∧ i = .setGate c .high ∧
      ch.gate = .low ∧ ch.mode ≠ .mode0 ∧ ch.mode ≠ .mode4) ∨
    (ch.countingState ≠ .waitingForReload ∧ cs = .waitingForGate ∧ i = .setGate c .low ∧
      ch.gate = .high ∧ (ch.mode = .mode2 ∨ ch.mode = .mode3)) ∨
    (ch.countingState = .waitingForLoadCycle ∧ cs = .counting ∧ (i = .tick ∨ i = .chTick c)) ∨
    (ch.countingState = .counting ∧ cs = .waitingForLoadCycle ∧ (i = .tick ∨ i = .chTick c) ∧
      ch.mode = .mode2 ∧ ch.gate = .high ∧ (t.chan c).countingElement = 0x0001)
end

