-- ==== Sys2Proof/Laws/State.lean ====
section
/-!
SUPPORT. The field lemmas of the record updates: what each unconditional update of a channel makes of each field, and
what an update of one channel makes of the state.
-/

namespace Sys2Proof.Machine

/-! The state. -/

@[simp] theorem State.chan_ch0 (s : State) : s.chan .ch0 = s.ch0 := rfl
@[simp] theorem State.chan_ch1 (s : State) : s.chan .ch1 = s.ch1 := rfl
@[simp] theorem State.chan_ch2 (s : State) : s.chan .ch2 = s.ch2 := rfl

@[simp] theorem State.setChan_params (s : State) (c : Channel) (ch : Chan) : (s.setChan c ch).params = s.params := by
  cases c <;> rfl
@[simp] theorem State.setChan_inputs (s : State) (c : Channel) (ch : Chan) : (s.setChan c ch).inputs = s.inputs := by
  cases c <;> rfl
@[simp] theorem State.setChan_dataOut (s : State) (c : Channel) (ch : Chan) : (s.setChan c ch).dataOut = s.dataOut := by
  cases c <;> rfl
@[simp] theorem State.chan_setChan_same (s : State) (c : Channel) (ch : Chan) : (s.setChan c ch).chan c = ch := by
  cases c <;> rfl
theorem State.chan_setChan_other (s : State) {c c' : Channel} (ch : Chan) (h : c' ≠ c) :
    (s.setChan c ch).chan c' = s.chan c' := by
  cases c <;> cases c' <;> first | rfl | exact absurd rfl h
@[simp] theorem State.setChan_chan (s : State) (c : Channel) : s.setChan c (s.chan c) = s := by
  cases c <;> rfl

@[simp] theorem State.update_params (s : State) (c : Channel) (f : Chan → Chan) : (s.update c f).params = s.params :=
  s.setChan_params c _
@[simp] theorem State.update_inputs (s : State) (c : Channel) (f : Chan → Chan) : (s.update c f).inputs = s.inputs :=
  s.setChan_inputs c _
@[simp] theorem State.update_dataOut (s : State) (c : Channel) (f : Chan → Chan) : (s.update c f).dataOut = s.dataOut :=
  s.setChan_dataOut c _
@[simp] theorem State.chan_update_same (s : State) (c : Channel) (f : Chan → Chan) :
    (s.update c f).chan c = f (s.chan c) :=
  s.chan_setChan_same c _
theorem State.chan_update_other (s : State) {c c' : Channel} (f : Chan → Chan) (h : c' ≠ c) :
    (s.update c f).chan c' = s.chan c' :=
  s.chan_setChan_other _ h

@[simp] theorem State.chan_withDataOut (s : State) (c : Channel) (r : Option Byte) :
    State.chan { s with dataOut := r } c = s.chan c := by
  cases c <;> rfl
@[simp] theorem State.chan_withInputs (s : State) (c : Channel) (l : List Input) :
    State.chan { s with inputs := l } c = s.chan c := by
  cases c <;> rfl

/-- Two states are equal if their channels and the model's own fields are. -/
theorem State.ext_chan {s t : State} (hp : s.params = t.params) (hi : s.inputs = t.inputs)
    (hd : s.dataOut = t.dataOut) (hc : ∀ c, s.chan c = t.chan c) : s = t := by
  have h0 : s.ch0 = t.ch0 := hc .ch0
  have h1 : s.ch1 = t.ch1 := hc .ch1
  have h2 : s.ch2 = t.ch2 := hc .ch2
  cases s
  cases t
  simp_all only

/-! `Chan.reload`. -/

@[simp] theorem Chan.reload_countRegister (ch : Chan) : ch.reload.countRegister = ch.countRegister := rfl
@[simp] theorem Chan.reload_countingElement (ch : Chan) : ch.reload.countingElement = ch.countRegister &&& ch.loadMask := rfl
@[simp] theorem Chan.reload_countLatch (ch : Chan) : ch.reload.countLatch = ch.countLatch := rfl
@[simp] theorem Chan.reload_latched (ch : Chan) : ch.reload.latched = ch.latched := rfl
@[simp] theorem Chan.reload_mode (ch : Chan) : ch.reload.mode = ch.mode := rfl
@[simp] theorem Chan.reload_access (ch : Chan) : ch.reload.access = ch.access := rfl
@[simp] theorem Chan.reload_bcd (ch : Chan) : ch.reload.bcd = ch.bcd := rfl
@[simp] theorem Chan.reload_loadMask (ch : Chan) : ch.reload.loadMask = ch.loadMask := rfl
@[simp] theorem Chan.reload_output (ch : Chan) : ch.reload.output = ch.output := rfl
@[simp] theorem Chan.reload_gate (ch : Chan) : ch.reload.gate = ch.gate := rfl
@[simp] theorem Chan.reload_armed (ch : Chan) : ch.reload.armed = ch.armed := rfl
@[simp] theorem Chan.reload_loadPhase (ch : Chan) : ch.reload.loadPhase = ch.loadPhase := rfl
@[simp] theorem Chan.reload_loadState (ch : Chan) : ch.reload.loadState = ch.loadState := rfl
@[simp] theorem Chan.reload_ceUndefined (ch : Chan) : ch.reload.ceUndefined = ch.ceUndefined := rfl
@[simp] theorem Chan.reload_readState (ch : Chan) : ch.reload.readState = ch.readState := rfl
@[simp] theorem Chan.reload_countingState (ch : Chan) : ch.reload.countingState = ch.countingState := rfl

/-! `Chan.decBy`. -/

@[simp] theorem Chan.decBy_countRegister (k : Nat) (ch : Chan) : (ch.decBy k).countRegister = ch.countRegister := rfl
@[simp] theorem Chan.decBy_countingElement (k : Nat) (ch : Chan) : (ch.decBy k).countingElement = decK k ch.countingElement ch.bcd := rfl
@[simp] theorem Chan.decBy_countLatch (k : Nat) (ch : Chan) : (ch.decBy k).countLatch = ch.countLatch := rfl
@[simp] theorem Chan.decBy_latched (k : Nat) (ch : Chan) : (ch.decBy k).latched = ch.latched := rfl
@[simp] theorem Chan.decBy_mode (k : Nat) (ch : Chan) : (ch.decBy k).mode = ch.mode := rfl
@[simp] theorem Chan.decBy_access (k : Nat) (ch : Chan) : (ch.decBy k).access = ch.access := rfl
@[simp] theorem Chan.decBy_bcd (k : Nat) (ch : Chan) : (ch.decBy k).bcd = ch.bcd := rfl
@[simp] theorem Chan.decBy_loadMask (k : Nat) (ch : Chan) : (ch.decBy k).loadMask = ch.loadMask := rfl
@[simp] theorem Chan.decBy_output (k : Nat) (ch : Chan) : (ch.decBy k).output = ch.output := rfl
@[simp] theorem Chan.decBy_gate (k : Nat) (ch : Chan) : (ch.decBy k).gate = ch.gate := rfl
@[simp] theorem Chan.decBy_armed (k : Nat) (ch : Chan) : (ch.decBy k).armed = ch.armed := rfl
@[simp] theorem Chan.decBy_loadPhase (k : Nat) (ch : Chan) : (ch.decBy k).loadPhase = ch.loadPhase := rfl
@[simp] theorem Chan.decBy_loadState (k : Nat) (ch : Chan) : (ch.decBy k).loadState = ch.loadState := rfl
@[simp] theorem Chan.decBy_ceUndefined (k : Nat) (ch : Chan) : (ch.decBy k).ceUndefined = ch.ceUndefined := rfl
@[simp] theorem Chan.decBy_readState (k : Nat) (ch : Chan) : (ch.decBy k).readState = ch.readState := rfl
@[simp] theorem Chan.decBy_countingState (k : Nat) (ch : Chan) : (ch.decBy k).countingState = ch.countingState := rfl

/-! `Chan.toggleReload`. -/

@[simp] theorem Chan.toggleReload_countRegister (ch : Chan) : ch.toggleReload.countRegister = ch.countRegister := rfl
@[simp] theorem Chan.toggleReload_countingElement (ch : Chan) : ch.toggleReload.countingElement = ch.countRegister &&& ch.loadMask := rfl
@[simp] theorem Chan.toggleReload_countLatch (ch : Chan) : ch.toggleReload.countLatch = ch.countLatch := rfl
@[simp] theorem Chan.toggleReload_latched (ch : Chan) : ch.toggleReload.latched = ch.latched := rfl
@[simp] theorem Chan.toggleReload_mode (ch : Chan) : ch.toggleReload.mode = ch.mode := rfl
@[simp] theorem Chan.toggleReload_access (ch : Chan) : ch.toggleReload.access = ch.access := rfl
@[simp] theorem Chan.toggleReload_bcd (ch : Chan) : ch.toggleReload.bcd = ch.bcd := rfl
@[simp] theorem Chan.toggleReload_loadMask (ch : Chan) : ch.toggleReload.loadMask = ch.loadMask := rfl
@[simp] theorem Chan.toggleReload_output (ch : Chan) : ch.toggleReload.output = toggle ch.output := rfl
@[simp] theorem Chan.toggleReload_gate (ch : Chan) : ch.toggleReload.gate = ch.gate := rfl
@[simp] theorem Chan.toggleReload_armed (ch : Chan) : ch.toggleReload.armed = ch.armed := rfl
@[simp] theorem Chan.toggleReload_loadPhase (ch : Chan) : ch.toggleReload.loadPhase = ch.loadPhase := rfl
@[simp] theorem Chan.toggleReload_loadState (ch : Chan) : ch.toggleReload.loadState = ch.loadState := rfl
@[simp] theorem Chan.toggleReload_ceUndefined (ch : Chan) : ch.toggleReload.ceUndefined = ch.ceUndefined := rfl
@[simp] theorem Chan.toggleReload_readState (ch : Chan) : ch.toggleReload.readState = ch.readState := rfl
@[simp] theorem Chan.toggleReload_countingState (ch : Chan) : ch.toggleReload.countingState = ch.countingState := rfl

/-! `Chan.loadCycle`. -/

@[simp] theorem Chan.loadCycle_countRegister (ch : Chan) : ch.loadCycle.countRegister = ch.countRegister := rfl
@[simp] theorem Chan.loadCycle_countingElement (ch : Chan) : ch.loadCycle.countingElement = ch.countRegister &&& ch.loadMask := rfl
@[simp] theorem Chan.loadCycle_countLatch (ch : Chan) : ch.loadCycle.countLatch = ch.countLatch := rfl
@[simp] theorem Chan.loadCycle_latched (ch : Chan) : ch.loadCycle.latched = ch.latched := rfl
@[simp] theorem Chan.loadCycle_mode (ch : Chan) : ch.loadCycle.mode = ch.mode := rfl
@[simp] theorem Chan.loadCycle_access (ch : Chan) : ch.loadCycle.access = ch.access := rfl
@[simp] theorem Chan.loadCycle_bcd (ch : Chan) : ch.loadCycle.bcd = ch.bcd := rfl
@[simp] theorem Chan.loadCycle_loadMask (ch : Chan) : ch.loadCycle.loadMask = ch.loadMask := rfl
@[simp] theorem Chan.loadCycle_output (ch : Chan) : ch.loadCycle.output = postReloadLevel ch.mode := rfl
@[simp] theorem Chan.loadCycle_gate (ch : Chan) : ch.loadCycle.gate = ch.gate := rfl
@[simp] theorem Chan.loadCycle_armed (ch : Chan) : ch.loadCycle.armed = ch.armed := rfl
@[simp] theorem Chan.loadCycle_loadPhase (ch : Chan) : ch.loadCycle.loadPhase = ch.loadPhase := rfl
@[simp] theorem Chan.loadCycle_loadState (ch : Chan) : ch.loadCycle.loadState = ch.loadState := rfl
@[simp] theorem Chan.loadCycle_ceUndefined (ch : Chan) : ch.loadCycle.ceUndefined = false := rfl
@[simp] theorem Chan.loadCycle_readState (ch : Chan) : ch.loadCycle.readState = ch.readState := rfl
@[simp] theorem Chan.loadCycle_countingState (ch : Chan) : ch.loadCycle.countingState = .counting := rfl

/-! `Chan.placeholderLoad`. -/

@[simp] theorem Chan.placeholderLoad_countRegister (p : Count) (ch : Chan) : (ch.placeholderLoad p).countRegister = ch.countRegister := rfl
@[simp] theorem Chan.placeholderLoad_countingElement (p : Count) (ch : Chan) : (ch.placeholderLoad p).countingElement = p := rfl
@[simp] theorem Chan.placeholderLoad_countLatch (p : Count) (ch : Chan) : (ch.placeholderLoad p).countLatch = ch.countLatch := rfl
@[simp] theorem Chan.placeholderLoad_latched (p : Count) (ch : Chan) : (ch.placeholderLoad p).latched = ch.latched := rfl
@[simp] theorem Chan.placeholderLoad_mode (p : Count) (ch : Chan) : (ch.placeholderLoad p).mode = ch.mode := rfl
@[simp] theorem Chan.placeholderLoad_access (p : Count) (ch : Chan) : (ch.placeholderLoad p).access = ch.access := rfl
@[simp] theorem Chan.placeholderLoad_bcd (p : Count) (ch : Chan) : (ch.placeholderLoad p).bcd = ch.bcd := rfl
@[simp] theorem Chan.placeholderLoad_loadMask (p : Count) (ch : Chan) : (ch.placeholderLoad p).loadMask = ch.loadMask := rfl
@[simp] theorem Chan.placeholderLoad_output (p : Count) (ch : Chan) : (ch.placeholderLoad p).output = ch.output := rfl
@[simp] theorem Chan.placeholderLoad_gate (p : Count) (ch : Chan) : (ch.placeholderLoad p).gate = ch.gate := rfl
@[simp] theorem Chan.placeholderLoad_armed (p : Count) (ch : Chan) : (ch.placeholderLoad p).armed = ch.armed := rfl
@[simp] theorem Chan.placeholderLoad_loadPhase (p : Count) (ch : Chan) : (ch.placeholderLoad p).loadPhase = ch.loadPhase := rfl
@[simp] theorem Chan.placeholderLoad_loadState (p : Count) (ch : Chan) : (ch.placeholderLoad p).loadState = ch.loadState := rfl
@[simp] theorem Chan.placeholderLoad_ceUndefined (p : Count) (ch : Chan) : (ch.placeholderLoad p).ceUndefined = true := rfl
@[simp] theorem Chan.placeholderLoad_readState (p : Count) (ch : Chan) : (ch.placeholderLoad p).readState = ch.readState := rfl
@[simp] theorem Chan.placeholderLoad_countingState (p : Count) (ch : Chan) : (ch.placeholderLoad p).countingState = ch.countingState := rfl

/-! `Chan.modeSet`. -/

@[simp] theorem Chan.modeSet_countRegister (v : Variant) (a : Access) (m : Mode) (d : Bool) (ch : Chan) : (ch.modeSet v a m d).countRegister = 0x0000 := rfl
@[simp] theorem Chan.modeSet_countingElement (v : Variant) (a : Access) (m : Mode) (d : Bool) (ch : Chan) : (ch.modeSet v a m d).countingElement = 0x0000 := rfl
@[simp] theorem Chan.modeSet_countLatch (v : Variant) (a : Access) (m : Mode) (d : Bool) (ch : Chan) : (ch.modeSet v a m d).countLatch = ch.countLatch := rfl
@[simp] theorem Chan.modeSet_latched (v : Variant) (a : Access) (m : Mode) (d : Bool) (ch : Chan) : (ch.modeSet v a m d).latched = false := rfl
@[simp] theorem Chan.modeSet_mode (v : Variant) (a : Access) (m : Mode) (d : Bool) (ch : Chan) : (ch.modeSet v a m d).mode = m := rfl
@[simp] theorem Chan.modeSet_access (v : Variant) (a : Access) (m : Mode) (d : Bool) (ch : Chan) : (ch.modeSet v a m d).access = a := rfl
@[simp] theorem Chan.modeSet_bcd (v : Variant) (a : Access) (m : Mode) (d : Bool) (ch : Chan) : (ch.modeSet v a m d).bcd = d := rfl
@[simp] theorem Chan.modeSet_loadMask (v : Variant) (a : Access) (m : Mode) (d : Bool) (ch : Chan) : (ch.modeSet v a m d).loadMask = loadMaskOf v m := rfl
@[simp] theorem Chan.modeSet_output (v : Variant) (a : Access) (m : Mode) (d : Bool) (ch : Chan) : (ch.modeSet v a m d).output = powerOnLevel m := rfl
@[simp] theorem Chan.modeSet_gate (v : Variant) (a : Access) (m : Mode) (d : Bool) (ch : Chan) : (ch.modeSet v a m d).gate = ch.gate := rfl
@[simp] theorem Chan.modeSet_armed (v : Variant) (a : Access) (m : Mode) (d : Bool) (ch : Chan) : (ch.modeSet v a m d).armed = false := rfl
@[simp] theorem Chan.modeSet_loadPhase (v : Variant) (a : Access) (m : Mode) (d : Bool) (ch : Chan) : (ch.modeSet v a m d).loadPhase = .initial := rfl
@[simp] theorem Chan.modeSet_loadState (v : Variant) (a : Access) (m : Mode) (d : Bool) (ch : Chan) : (ch.modeSet v a m d).loadState = .firstByte := rfl
@[simp] theorem Chan.modeSet_ceUndefined (v : Variant) (a : Access) (m : Mode) (d : Bool) (ch : Chan) : (ch.modeSet v a m d).ceUndefined = false := rfl
@[simp] theorem Chan.modeSet_readState (v : Variant) (a : Access) (m : Mode) (d : Bool) (ch : Chan) : (ch.modeSet v a m d).readState = .firstByte := rfl
@[simp] theorem Chan.modeSet_countingState (v : Variant) (a : Access) (m : Mode) (d : Bool) (ch : Chan) : (ch.modeSet v a m d).countingState = .waitingForReload := rfl

end Sys2Proof.Machine
end

