-- ==== Sys2Proof/Laws/Ops.lean ====
section
/-!
SUPPORT. One lemma for each shared operation that says once what it can do. The frames are given as the record with the
fields an operation may write left open.
-/

namespace Sys2Proof.Machine

/-! Digits and the decrement (R166). -/

theorem append_toNat {n m : Nat} (a : BitVec n) (b : BitVec m) :
    (a ++ b).toNat = a.toNat * 2 ^ m + b.toNat := by
  rw [BitVec.toNat_append, ← Nat.shiftLeft_add_eq_or_of_lt b.isLt, Nat.shiftLeft_eq]

theorem packDigits_toNat (n3 n2 n1 n0 : BitVec 4) :
    (packDigits n3 n2 n1 n0).toNat = 4096 * n3.toNat + 256 * n2.toNat + 16 * n1.toNat + n0.toNat := by
  have h : (packDigits n3 n2 n1 n0).toNat = (((n3 ++ n2) ++ n1) ++ n0).toNat := rfl
  rw [h, append_toNat, append_toNat, append_toNat]
  omega

theorem digit_toNat (k : Nat) (v : Count) : (digit k v).toNat = v.toNat / 2 ^ (4 * k) % 16 := by
  simp [digit, Nat.shiftRight_eq_div_pow]

@[simp] theorem digit_zero_pack (n3 n2 n1 n0 : BitVec 4) : digit 0 (packDigits n3 n2 n1 n0) = n0 := by
  apply BitVec.eq_of_toNat_eq
  rw [digit_toNat, packDigits_toNat]
  omega

@[simp] theorem digit_one_pack (n3 n2 n1 n0 : BitVec 4) : digit 1 (packDigits n3 n2 n1 n0) = n1 := by
  apply BitVec.eq_of_toNat_eq
  rw [digit_toNat, packDigits_toNat]
  omega

@[simp] theorem digit_two_pack (n3 n2 n1 n0 : BitVec 4) : digit 2 (packDigits n3 n2 n1 n0) = n2 := by
  apply BitVec.eq_of_toNat_eq
  rw [digit_toNat, packDigits_toNat]
  omega

@[simp] theorem digit_three_pack (n3 n2 n1 n0 : BitVec 4) : digit 3 (packDigits n3 n2 n1 n0) = n3 := by
  apply BitVec.eq_of_toNat_eq
  rw [digit_toNat, packDigits_toNat]
  omega

@[simp] theorem packDigits_digits (v : Count) :
    packDigits (digit 3 v) (digit 2 v) (digit 1 v) (digit 0 v) = v := by
  apply BitVec.eq_of_toNat_eq
  rw [packDigits_toNat, digit_toNat, digit_toNat, digit_toNat, digit_toNat]
  omega

@[simp] theorem dec_binary (v : Count) : dec v false = v - 1 := rfl
@[simp] theorem dec_bcd (v : Count) : dec v true = decBcd v := rfl
@[simp] theorem decK_zero (v : Count) (bcd : Bool) : decK 0 v bcd = v := rfl
theorem decK_succ (k : Nat) (v : Count) (bcd : Bool) : decK (k + 1) v bcd = decK k (dec v bcd) bcd := rfl
@[simp] theorem decK_one (v : Count) (bcd : Bool) : decK 1 v bcd = dec v bcd := rfl
@[simp] theorem decK_two (v : Count) (bcd : Bool) : decK 2 v bcd = dec (dec v bcd) bcd := rfl
@[simp] theorem decK_three (v : Count) (bcd : Bool) : decK 3 v bcd = dec (dec (dec v bcd) bcd) bcd := rfl

/-- Steps add up, so a run of ticks subtracts the sum of its steps. -/
theorem decK_add (j k : Nat) (v : Count) (bcd : Bool) : decK (j + k) v bcd = decK k (decK j v bcd) bcd := by
  induction j generalizing v with
  | zero => simp
  | succ j ih => rw [Nat.succ_add, decK_succ, decK_succ, ih]

/-- One decrement in binary or BCD never changes the low bit twice: two decrements keep the parity (R190). -/
theorem isOdd_dec (v : Count) (bcd : Bool) : isOdd (dec v bcd) = !isOdd v := by
  have hodd : ∀ w : Count, isOdd w = decide (w.toNat % 2 = 1) := by
    intro w
    simp [isOdd, BitVec.getLsbD, Nat.testBit_zero]
  cases bcd
  · simp only [hodd, dec_binary, BitVec.toNat_sub]
    rw [← decide_not]
    apply decide_eq_decide.mpr
    simp only [BitVec.reduceToNat]
    omega
  · have low : ∀ w : Count, isOdd w = (digit 0 w).getLsbD 0 := by
      intro w
      simp [isOdd, digit]
    have flip : ∀ n : BitVec 4, n ≠ 0 → (n - 1).getLsbD 0 = !n.getLsbD 0 := by decide
    rw [low, low, dec_bcd]
    unfold decBcd
    by_cases h : digit 0 v = 0
    · simp only [h, ne_eq, not_true_eq_false, if_false]
      split
      · simp
      · split
        · simp
        · split <;> simp
    · simp only [ne_eq, h, not_false_eq_true, if_true, digit_zero_pack]
      exact flip _ h

/-! The latch and the read (R121, R124). -/

/-- What a latch makes of a channel: the snapshot it holds, or a new one. -/
theorem Chan.latch_eq (ch : Chan) :
    ch.latch = { ch with countLatch := if ch.latched then ch.countLatch else ch.countingElement, latched := true } := by
  cases ch
  rename_i l _ _ _ _ _ _ _ _ _ _ _ _
  cases l <;> rfl

/-- A second latch in a row changes nothing. -/
theorem Chan.latch_latch (ch : Chan) : ch.latch.latch = ch.latch := by
  rw [Chan.latch_eq ch]
  rfl

/-- What a read makes of a channel. -/
theorem Chan.afterRead_eq (ch : Chan) :
    ch.afterRead = { ch with
      latched := ch.latched && (ch.access == .lsbMsb && ch.readState == .firstByte),
      readState :=
        if ch.access = .lsbMsb then (if ch.readState = .firstByte then .secondByte else .firstByte)
        else ch.readState } := by
  cases ch
  rename_i l _ a _ _ _ _ _ _ _ _ r _
  cases l <;> cases a <;> cases r <;> rfl

/-! The count load (R100 to R106). -/

/-- What a first load makes of a channel. -/
theorem Chan.firstLoad_eq (ch : Chan) :
    ch.firstLoad = { ch with
      armed := true, loadPhase := .subsequent,
      countingState :=
        if ch.mode = .mode1 ∨ ch.mode = .mode5 then .waitingForLoadTrigger else .waitingForLoadCycle } := by
  cases ch
  rename_i m _ _ _ _ _ _ _ _ _ _ _
  cases m <;> rfl

/-- What a later load makes of a channel. -/
theorem Chan.subsequentLoad_eq (ch : Chan) :
    ch.subsequentLoad = { ch with
      countingState :=
        if ch.mode = .mode0 ∨ ch.mode = .mode4 then .waitingForLoadCycle else ch.countingState } := by
  cases ch
  rename_i m _ _ _ _ _ _ _ _ _ _ _
  cases m <;> rfl

/-- Load completion is one of the two. -/
theorem Chan.completeLoad_cases (ch : Chan) :
    (ch.loadPhase = .initial ∧ ch.completeLoad = ch.firstLoad) ∨
    (ch.loadPhase = .subsequent ∧ ch.completeLoad = ch.subsequentLoad) := by
  unfold Chan.completeLoad
  cases h : ch.loadPhase
  · exact .inl ⟨rfl, rfl⟩
  · exact .inr ⟨rfl, rfl⟩

/-- The fields a load completion can write. -/
theorem Chan.completeLoad_frame (ch : Chan) :
    ch.completeLoad = { ch with
      armed := ch.completeLoad.armed, loadPhase := ch.completeLoad.loadPhase,
      countingState := ch.completeLoad.countingState } := by
  rcases ch.completeLoad_cases with ⟨_, h⟩ | ⟨_, h⟩ <;> rw [h]
  · rw [Chan.firstLoad_eq]
  · rw [Chan.subsequentLoad_eq]

/-- The first byte of a two-byte load. -/
theorem Chan.writeFirstByte_eq (b : Byte) (ch : Chan) :
    ch.writeFirstByte b = { ch with
      countRegister := withLowByte ch.countRegister b, loadState := .secondByte,
      output := if ch.mode = .mode0 then .low else ch.output,
      countingState := if ch.mode = .mode0 then .waitingForReload else ch.countingState } := by
  cases ch
  rename_i m _ _ _ _ _ _ _ _ _ _ _
  cases m <;> rfl

/-- A count write is one of four cases, by access mode and sequencer. -/
theorem Chan.writeByte_cases (b : Byte) (ch : Chan) :
    (ch.access = .lsb ∧
      ch.writeByte b = Chan.completeLoad { ch with countRegister := withLowByte ch.countRegister b }) ∨
    (ch.access = .msb ∧
      ch.writeByte b = Chan.completeLoad { ch with countRegister := withHighByte ch.countRegister b }) ∨
    (ch.access = .lsbMsb ∧ ch.loadState = .firstByte ∧ ch.writeByte b = ch.writeFirstByte b) ∨
    (ch.access = .lsbMsb ∧ ch.loadState = .secondByte ∧
      ch.writeByte b = Chan.completeLoad
        { ch with countRegister := withHighByte ch.countRegister b, loadState := .firstByte }) := by
  cases ha : ch.access <;> cases hl : ch.loadState <;>
    simp [Chan.writeByte, Chan.writeLsbOnly, Chan.writeMsbOnly, Chan.writeTwoByte, Chan.writeSecondByte, ha, hl]

/-! The gate (R141 to R145). -/

/-- A rising edge. -/
theorem Chan.risingEdge_eq (ch : Chan) :
    ch.risingEdge = { ch with
      countingState :=
        if ch.mode = .mode0 ∨ ch.mode = .mode4 then ch.countingState else .waitingForLoadCycle } := by
  cases ch
  rename_i m _ _ _ _ _ _ _ _ _ _ _
  cases m <;> rfl

/-- A falling edge. -/
theorem Chan.fallingEdge_eq (ch : Chan) :
    ch.fallingEdge = { ch with
      countingState := if ch.mode = .mode2 ∨ ch.mode = .mode3 then .waitingForGate else ch.countingState,
      output := if ch.mode = .mode2 ∨ ch.mode = .mode3 then .high else ch.output } := by
  cases ch
  rename_i m _ _ _ _ _ _ _ _ _ _ _
  cases m <;> rfl

/-- A gate change is a rising edge, a falling edge, or no more than the new level. -/
theorem Chan.setGate_cases (g : Level) (ch : Chan) :
    (ch.countingState ≠ .waitingForReload ∧ ch.gate = .low ∧ g = .high ∧
      ch.setGate g = Chan.risingEdge { ch with gate := .high }) ∨
    (ch.countingState ≠ .waitingForReload ∧ ch.gate = .high ∧ g = .low ∧
      ch.setGate g = Chan.fallingEdge { ch with gate := .low }) ∨
    ((ch.countingState = .waitingForReload ∨ ch.gate = g) ∧ ch.setGate g = { ch with gate := g }) := by
  cases hs : ch.countingState <;> cases hg : ch.gate <;> cases g <;> simp [Chan.setGate, Chan.gateEdge, hs, hg]

/-! The counting rules (R180 to R200). -/

/-- With the gate LOW the rules of modes 0, 2, 3 and 4 change nothing (R180). -/
theorem Chan.gatedModes_low (v : Variant) (ch : Chan) (h : ch.gate = .low) :
    ch.countMode0 = ch ∧ ch.countMode2 = ch ∧ ch.countMode3 v = ch ∧ ch.countMode4 = ch := by
  simp [Chan.countMode0, Chan.countMode2, Chan.countMode3, Chan.countMode4, h]

/-- The fields mode 0 can write. -/
theorem Chan.countMode0_frame (ch : Chan) :
    ch.countMode0 = { ch with
      countingElement := ch.countMode0.countingElement, output := ch.countMode0.output } := by
  cases hg : ch.gate
  · rw [(Chan.gatedModes_low .early ch hg).1, ← hg]
  · simp only [Chan.countMode0, hg]
    split <;> simp [Chan.decBy, hg]

/-- The fields mode 1 can write. -/
theorem Chan.countMode1_frame (ch : Chan) :
    ch.countMode1 = { ch with
      countingElement := ch.countMode1.countingElement, output := ch.countMode1.output } := by
  unfold Chan.countMode1
  dsimp only
  split <;> rfl

/-- Mode 2 changes nothing, counts, or counts to one with the low pulse and the request for a load cycle. -/
theorem Chan.countMode2_cases (ch : Chan) :
    (ch.gate = .low ∧ ch.countMode2 = ch) ∨
    (ch.gate = .high ∧ dec ch.countingElement ch.bcd ≠ 1 ∧
      ch.countMode2 = { ch with countingElement := dec ch.countingElement ch.bcd }) ∨
    (ch.gate = .high ∧ dec ch.countingElement ch.bcd = 1 ∧
      ch.countMode2 =
        { ch with countingElement := 1, output := .low, countingState := .waitingForLoadCycle }) := by
  cases hg : ch.gate
  · exact .inl ⟨rfl, (Chan.gatedModes_low .early ch hg).2.1⟩
  · by_cases h : dec ch.countingElement ch.bcd = 1#16
    · refine .inr (.inr ⟨rfl, h, ?_⟩)
      simp [Chan.countMode2, hg, atOne, h, Chan.decBy]
    · refine .inr (.inl ⟨rfl, h, ?_⟩)
      simp [Chan.countMode2, hg, atOne, h, Chan.decBy]

/-- The fields mode 3 can write. -/
theorem Chan.countMode3_frame (v : Variant) (ch : Chan) :
    ch.countMode3 v = { ch with
      countingElement := (ch.countMode3 v).countingElement, output := (ch.countMode3 v).output } := by
  have step : ∀ k, (if atZero (ch.decBy k).countingElement then (ch.decBy k).toggleReload else ch.decBy k)
      = { ch with
          countingElement :=
            (if atZero (ch.decBy k).countingElement then (ch.decBy k).toggleReload else ch.decBy k).countingElement,
          output := (if atZero (ch.decBy k).countingElement then (ch.decBy k).toggleReload else ch.decBy k).output } := by
    intro k
    split <;> rfl
  cases hg : ch.gate
  · rw [(Chan.gatedModes_low v ch hg).2.2.1, ← hg]
  · simp only [Chan.countMode3, hg]
    rw [← hg]
    split
    · cases v
      · exact step _
      · simp only [Chan.mode3OddLate]
        split
        · split <;> rfl
        · exact step 2
    · exact step 2

/-- The fields the strobe rule can write. -/
theorem Chan.strobe_eq (ch : Chan) :
    ch.strobe = { ch with
      countingElement := dec ch.countingElement ch.bcd,
      output := if dec ch.countingElement ch.bcd = 0 then .low else .high } := by
  unfold Chan.strobe
  by_cases h : dec ch.countingElement ch.bcd = 0#16 <;> simp [atZero, h, Chan.decBy]

/-- The fields the strobe rule of mode 4 can write. -/
theorem Chan.countMode4_frame (ch : Chan) :
    ch.countMode4 = { ch with
      countingElement := ch.countMode4.countingElement, output := ch.countMode4.output } := by
  cases hg : ch.gate
  · rw [(Chan.gatedModes_low .early ch hg).2.2.2, ← hg]
  · simp only [Chan.countMode4, hg]
    rw [Chan.strobe_eq, ← hg]

/-- The fields the strobe rule of mode 5 can write. -/
theorem Chan.countMode5_frame (ch : Chan) :
    ch.countMode5 = { ch with
      countingElement := ch.countMode5.countingElement, output := ch.countMode5.output } := by
  unfold Chan.countMode5
  rw [Chan.strobe_eq]

/-- A counting rule writes the counter and the output only, but for mode 2 at the count of one. -/
theorem Chan.modeRule_frame (v : Variant) (ch : Chan) :
    (ch.modeRule v = { ch with
      countingElement := (ch.modeRule v).countingElement, output := (ch.modeRule v).output }) ∨
    (ch.mode = .mode2 ∧ ch.gate = .high ∧
      ch.modeRule v = { ch with countingElement := 1, output := .low, countingState := .waitingForLoadCycle }) := by
  generalize hr : ch.modeRule v = r
  unfold Chan.modeRule at hr
  split at hr <;> subst hr
  · exact .inl ch.countMode0_frame
  · exact .inl ch.countMode1_frame
  · rename_i hm
    rcases ch.countMode2_cases with ⟨_, h⟩ | ⟨_, _, h⟩ | ⟨hg, _, h⟩ <;> rw [h]
    · exact .inl rfl
    · exact .inl rfl
    · exact .inr ⟨hm, hg, rfl⟩
  · exact .inl (ch.countMode3_frame v)
  · exact .inl ch.countMode4_frame
  · exact .inl ch.countMode5_frame

/-! The tick (R160 to R165). -/

/-- A tick is a load cycle, a placeholder load, a counting rule, or nothing. -/
theorem Chan.tick_cases (p : Params) (ch : Chan) :
    (ch.countingState = .waitingForLoadCycle ∧ ch.tick p = ch.loadCycle) ∨
    (ch.countingState = .waitingForLoadTrigger ∧ ch.armed = true ∧ ch.ceUndefined = false ∧
      ch.tick p = ch.placeholderLoad p.placeholder) ∨
    ((ch.countingState = .counting ∨ ch.countingState = .countingTriggered ∨
        ch.countingState = .waitingForLoadTrigger ∧ ¬ (ch.armed = true ∧ ch.ceUndefined = false)) ∧
      ch.tick p = ch.modeRule p.variant) ∨
    ((ch.countingState = .waitingForReload ∨ ch.countingState = .waitingForGate) ∧ ch.tick p = ch) := by
  cases hs : ch.countingState <;> cases ha : ch.armed <;> cases hu : ch.ceUndefined <;>
    simp [Chan.tick, hs, ha, hu]

/-- The fields a tick can write (R30). -/
theorem Chan.tick_frame (p : Params) (ch : Chan) :
    ch.tick p = { ch with
      countingElement := (ch.tick p).countingElement, output := (ch.tick p).output,
      ceUndefined := (ch.tick p).ceUndefined, countingState := (ch.tick p).countingState } := by
  rcases ch.tick_cases p with ⟨_, h⟩ | ⟨_, _, _, h⟩ | ⟨_, h⟩ | ⟨_, h⟩ <;> rw [h]
  · rfl
  · rfl
  · rcases ch.modeRule_frame p.variant with h' | ⟨_, _, h'⟩ <;> rw [h']

/-- One tick of the block is one tick of each channel. -/
theorem State.tickAll_chan (s : State) (c : Channel) : s.tickAll.chan c = (s.chan c).tick s.params := by
  cases c <;> rfl

@[simp] theorem State.tickAll_params (s : State) : s.tickAll.params = s.params := rfl
@[simp] theorem State.tickAll_inputs (s : State) : s.tickAll.inputs = s.inputs := rfl
@[simp] theorem State.tickAll_dataOut (s : State) : s.tickAll.dataOut = s.dataOut := rfl

/-! Reset (R230). -/

/-- RESET runs on each channel with its own parameters. -/
theorem State.resetAll_chan (s : State) (c : Channel) :
    s.resetAll.chan c = (s.chan c).resetWith s.params.variant (s.params.channel c) := by
  cases c <;> rfl

@[simp] theorem State.resetAll_params (s : State) : s.resetAll.params = s.params := rfl
@[simp] theorem State.resetAll_inputs (s : State) : s.resetAll.inputs = s.inputs := rfl
@[simp] theorem State.resetAll_dataOut (s : State) : s.resetAll.dataOut = s.dataOut := rfl

/-! Whole-state forms of the data accesses (R100, R124). -/

@[simp] theorem State.readData_params (s : State) (c : Channel) : (s.readData c).params = s.params := by
  cases c <;> rfl
@[simp] theorem State.readData_inputs (s : State) (c : Channel) : (s.readData c).inputs = s.inputs := by
  cases c <;> rfl
@[simp] theorem State.readData_dataOut (s : State) (c : Channel) :
    (s.readData c).dataOut = some (s.chan c).readByte := rfl

/-- A read moves on the sequencer of its channel and no other. -/
theorem State.readData_chan (s : State) (c c' : Channel) :
    (s.readData c).chan c' = if c' = c then (s.chan c).afterRead else s.chan c' := by
  cases c <;> cases c' <;> rfl

/-- A write reaches its channel and no other. -/
theorem State.writeData_chan (s : State) (c c' : Channel) (b : Byte) :
    (s.writeData c b).chan c' = if c' = c then (s.chan c).writeByte b else s.chan c' := by
  cases c <;> cases c' <;> rfl

/-! The control word (R80). -/

/-- A control word written to port 3 is a latch, a mode set, or the read-back command. -/
theorem State.writeControl_cases (s : State) (b : Byte) :
    (channelField b = none ∧ s.params.variant = .early ∧ s.writeControl b = .next s) ∨
    (channelField b = none ∧ s.params.variant = .late ∧ s.writeControl b = .refused .readbackUndescribed) ∨
    (∃ c, channelField b = some c ∧ accessField b = none ∧ s.writeControl b = .next (s.latchCommand c)) ∨
    (∃ c a, channelField b = some c ∧ accessField b = some a ∧
      s.writeControl b = .next (s.modeSetCommand c a (modeField b) (bcdField b))) := by
  unfold State.writeControl State.readbackCommand
  cases channelField b with
  | none => cases s.params.variant <;> simp
  | some c => cases accessField b <;> simp

end Sys2Proof.Machine
end

