-- ==== Sys2Proof/Laws/Exec.lean ====
section
/-!
SUPPORT. What `exec` answers for the groups of operations that statements name, in terms of the shared operations.
-/

namespace Sys2Proof.Machine

/-- A MODESET row runs the mode set of its operands. -/
theorem exec_modeset {i : Instr} {c : Channel} {a : Access} {f : ModeField} {d : Bool} (s : State)
    (h : i.modesetOperands = some (c, a, f, d)) : exec i s = .next (s.modeSetCommand c a f d) := by
  cases i <;> simp only [Instr.modesetOperands, Option.some.injEq, Prod.mk.injEq, reduceCtorEq] at h <;>
    (obtain ⟨rfl, rfl, rfl, rfl⟩ := h; rfl)

theorem exec_latchInstr (c : Channel) (s : State) : exec (latchInstr c) s = .next (s.latchCommand c) := by
  cases c <;> rfl

theorem exec_readInstr (c : Channel) (s : State) : exec (readInstr c) s = .next (s.readData c) := by
  cases c <;> rfl

theorem exec_writeInstr (b : Byte) (c : Channel) (s : State) :
    exec (writeInstr b c) s = .next (s.writeData c b) := by
  cases c <;> rfl

theorem exec_setGate (c : Channel) (g : Level) (s : State) :
    exec (.setGate c g) s = .next (s.update c (Chan.setGate g)) := rfl

theorem exec_tick (s : State) : exec .tick s = .next s.tickAll := rfl

theorem exec_chTick (c : Channel) (s : State) : exec (.chTick c) s = .next (s.chTick c) := rfl

theorem exec_reset (s : State) : exec .reset s = .next s.resetAll := rfl

end Sys2Proof.Machine
end

