-- ==== Sys2Proof/Laws/PerInstr.lean ====
section
/-!
SUPPORT. The family `EncodesWhenDeliverable`: an operation has an encoding exactly if it is an event an environment can
deliver (R73). One lemma for each constructor of `Instr`.
-/

namespace Sys2Proof.Laws

def EncodesWhenDeliverable.Statement (i : Instr) : Prop :=
  (encode i).isSome = i.deliverable

theorem EncodesWhenDeliverable.readbackEarly : EncodesWhenDeliverable.Statement .readbackEarly := rfl
theorem EncodesWhenDeliverable.readbackLate : EncodesWhenDeliverable.Statement .readbackLate := rfl
theorem EncodesWhenDeliverable.latch0 : EncodesWhenDeliverable.Statement .latch0 := rfl
theorem EncodesWhenDeliverable.latch1 : EncodesWhenDeliverable.Statement .latch1 := rfl
theorem EncodesWhenDeliverable.latch2 : EncodesWhenDeliverable.Statement .latch2 := rfl
theorem EncodesWhenDeliverable.modesetC0LsbM0 (d : Bool) : EncodesWhenDeliverable.Statement (.modesetC0LsbM0 d) := rfl
theorem EncodesWhenDeliverable.modesetC0LsbM1 (d : Bool) : EncodesWhenDeliverable.Statement (.modesetC0LsbM1 d) := rfl
theorem EncodesWhenDeliverable.modesetC0LsbM2 (d : Bool) : EncodesWhenDeliverable.Statement (.modesetC0LsbM2 d) := rfl
theorem EncodesWhenDeliverable.modesetC0LsbM3 (d : Bool) : EncodesWhenDeliverable.Statement (.modesetC0LsbM3 d) := rfl
theorem EncodesWhenDeliverable.modesetC0LsbM4 (d : Bool) : EncodesWhenDeliverable.Statement (.modesetC0LsbM4 d) := rfl
theorem EncodesWhenDeliverable.modesetC0LsbM5 (d : Bool) : EncodesWhenDeliverable.Statement (.modesetC0LsbM5 d) := rfl
theorem EncodesWhenDeliverable.modesetC0LsbM6 (d : Bool) : EncodesWhenDeliverable.Statement (.modesetC0LsbM6 d) := rfl
theorem EncodesWhenDeliverable.modesetC0LsbM7 (d : Bool) : EncodesWhenDeliverable.Statement (.modesetC0LsbM7 d) := rfl
theorem EncodesWhenDeliverable.modesetC0MsbM0 (d : Bool) : EncodesWhenDeliverable.Statement (.modesetC0MsbM0 d) := rfl
theorem EncodesWhenDeliverable.modesetC0MsbM1 (d : Bool) : EncodesWhenDeliverable.Statement (.modesetC0MsbM1 d) := rfl
theorem EncodesWhenDeliverable.modesetC0MsbM2 (d : Bool) : EncodesWhenDeliverable.Statement (.modesetC0MsbM2 d) := rfl
theorem EncodesWhenDeliverable.modesetC0MsbM3 (d : Bool) : EncodesWhenDeliverable.Statement (.modesetC0MsbM3 d) := rfl
theorem EncodesWhenDeliverable.modesetC0MsbM4 (d : Bool) : EncodesWhenDeliverable.Statement (.modesetC0MsbM4 d) := rfl
theorem EncodesWhenDeliverable.modesetC0MsbM5 (d : Bool) : EncodesWhenDeliverable.Statement (.modesetC0MsbM5 d) := rfl
theorem EncodesWhenDeliverable.modesetC0MsbM6 (d : Bool) : EncodesWhenDeliverable.Statement (.modesetC0MsbM6 d) := rfl
theorem EncodesWhenDeliverable.modesetC0MsbM7 (d : Bool) : EncodesWhenDeliverable.Statement (.modesetC0MsbM7 d) := rfl
theorem EncodesWhenDeliverable.modesetC0LsbmsbM0 (d : Bool) : EncodesWhenDeliverable.Statement (.modesetC0LsbmsbM0 d) := rfl
theorem EncodesWhenDeliverable.modesetC0LsbmsbM1 (d : Bool) : EncodesWhenDeliverable.Statement (.modesetC0LsbmsbM1 d) := rfl
theorem EncodesWhenDeliverable.modesetC0LsbmsbM2 (d : Bool) : EncodesWhenDeliverable.Statement (.modesetC0LsbmsbM2 d) := rfl
theorem EncodesWhenDeliverable.modesetC0LsbmsbM3 (d : Bool) : EncodesWhenDeliverable.Statement (.modesetC0LsbmsbM3 d) := rfl
theorem EncodesWhenDeliverable.modesetC0LsbmsbM4 (d : Bool) : EncodesWhenDeliverable.Statement (.modesetC0LsbmsbM4 d) := rfl
theorem EncodesWhenDeliverable.modesetC0LsbmsbM5 (d : Bool) : EncodesWhenDeliverable.Statement (.modesetC0LsbmsbM5 d) := rfl
theorem EncodesWhenDeliverable.modesetC0LsbmsbM6 (d : Bool) : EncodesWhenDeliverable.Statement (.modesetC0LsbmsbM6 d) := rfl
theorem EncodesWhenDeliverable.modesetC0LsbmsbM7 (d : Bool) : EncodesWhenDeliverable.Statement (.modesetC0LsbmsbM7 d) := rfl
theorem EncodesWhenDeliverable.modesetC1LsbM0 (d : Bool) : EncodesWhenDeliverable.Statement (.modesetC1LsbM0 d) := rfl
theorem EncodesWhenDeliverable.modesetC1LsbM1 (d : Bool) : EncodesWhenDeliverable.Statement (.modesetC1LsbM1 d) := rfl
theorem EncodesWhenDeliverable.modesetC1LsbM2 (d : Bool) : EncodesWhenDeliverable.Statement (.modesetC1LsbM2 d) := rfl
theorem EncodesWhenDeliverable.modesetC1LsbM3 (d : Bool) : EncodesWhenDeliverable.Statement (.modesetC1LsbM3 d) := rfl
theorem EncodesWhenDeliverable.modesetC1LsbM4 (d : Bool) : EncodesWhenDeliverable.Statement (.modesetC1LsbM4 d) := rfl
theorem EncodesWhenDeliverable.modesetC1LsbM5 (d : Bool) : EncodesWhenDeliverable.Statement (.modesetC1LsbM5 d) := rfl
theorem EncodesWhenDeliverable.modesetC1LsbM6 (d : Bool) : EncodesWhenDeliverable.Statement (.modesetC1LsbM6 d) := rfl
theorem EncodesWhenDeliverable.modesetC1LsbM7 (d : Bool) : EncodesWhenDeliverable.Statement (.modesetC1LsbM7 d) := rfl
theorem EncodesWhenDeliverable.modesetC1MsbM0 (d : Bool) : EncodesWhenDeliverable.Statement (.modesetC1MsbM0 d) := rfl
theorem EncodesWhenDeliverable.modesetC1MsbM1 (d : Bool) : EncodesWhenDeliverable.Statement (.modesetC1MsbM1 d) := rfl
theorem EncodesWhenDeliverable.modesetC1MsbM2 (d : Bool) : EncodesWhenDeliverable.Statement (.modesetC1MsbM2 d) := rfl
theorem EncodesWhenDeliverable.modesetC1MsbM3 (d : Bool) : EncodesWhenDeliverable.Statement (.modesetC1MsbM3 d) := rfl
theorem EncodesWhenDeliverable.modesetC1MsbM4 (d : Bool) : EncodesWhenDeliverable.Statement (.modesetC1MsbM4 d) := rfl
theorem EncodesWhenDeliverable.modesetC1MsbM5 (d : Bool) : EncodesWhenDeliverable.Statement (.modesetC1MsbM5 d) := rfl
theorem EncodesWhenDeliverable.modesetC1MsbM6 (d : Bool) : EncodesWhenDeliverable.Statement (.modesetC1MsbM6 d) := rfl
theorem EncodesWhenDeliverable.modesetC1MsbM7 (d : Bool) : EncodesWhenDeliverable.Statement (.modesetC1MsbM7 d) := rfl
theorem EncodesWhenDeliverable.modesetC1LsbmsbM0 (d : Bool) : EncodesWhenDeliverable.Statement (.modesetC1LsbmsbM0 d) := rfl
theorem EncodesWhenDeliverable.modesetC1LsbmsbM1 (d : Bool) : EncodesWhenDeliverable.Statement (.modesetC1LsbmsbM1 d) := rfl
theorem EncodesWhenDeliverable.modesetC1LsbmsbM2 (d : Bool) : EncodesWhenDeliverable.Statement (.modesetC1LsbmsbM2 d) := rfl
theorem EncodesWhenDeliverable.modesetC1LsbmsbM3 (d : Bool) : EncodesWhenDeliverable.Statement (.modesetC1LsbmsbM3 d) := rfl
theorem EncodesWhenDeliverable.modesetC1LsbmsbM4 (d : Bool) : EncodesWhenDeliverable.Statement (.modesetC1LsbmsbM4 d) := rfl
theorem EncodesWhenDeliverable.modesetC1LsbmsbM5 (d : Bool) : EncodesWhenDeliverable.Statement (.modesetC1LsbmsbM5 d) := rfl
theorem EncodesWhenDeliverable.modesetC1LsbmsbM6 (d : Bool) : EncodesWhenDeliverable.Statement (.modesetC1LsbmsbM6 d) := rfl
theorem EncodesWhenDeliverable.modesetC1LsbmsbM7 (d : Bool) : EncodesWhenDeliverable.Statement (.modesetC1LsbmsbM7 d) := rfl
theorem EncodesWhenDeliverable.modesetC2LsbM0 (d : Bool) : EncodesWhenDeliverable.Statement (.modesetC2LsbM0 d) := rfl
theorem EncodesWhenDeliverable.modesetC2LsbM1 (d : Bool) : EncodesWhenDeliverable.Statement (.modesetC2LsbM1 d) := rfl
theorem EncodesWhenDeliverable.modesetC2LsbM2 (d : Bool) : EncodesWhenDeliverable.Statement (.modesetC2LsbM2 d) := rfl
theorem EncodesWhenDeliverable.modesetC2LsbM3 (d : Bool) : EncodesWhenDeliverable.Statement (.modesetC2LsbM3 d) := rfl
theorem EncodesWhenDeliverable.modesetC2LsbM4 (d : Bool) : EncodesWhenDeliverable.Statement (.modesetC2LsbM4 d) := rfl
theorem EncodesWhenDeliverable.modesetC2LsbM5 (d : Bool) : EncodesWhenDeliverable.Statement (.modesetC2LsbM5 d) := rfl
theorem EncodesWhenDeliverable.modesetC2LsbM6 (d : Bool) : EncodesWhenDeliverable.Statement (.modesetC2LsbM6 d) := rfl
theorem EncodesWhenDeliverable.modesetC2LsbM7 (d : Bool) : EncodesWhenDeliverable.Statement (.modesetC2LsbM7 d) := rfl
theorem EncodesWhenDeliverable.modesetC2MsbM0 (d : Bool) : EncodesWhenDeliverable.Statement (.modesetC2MsbM0 d) := rfl
theorem EncodesWhenDeliverable.modesetC2MsbM1 (d : Bool) : EncodesWhenDeliverable.Statement (.modesetC2MsbM1 d) := rfl
theorem EncodesWhenDeliverable.modesetC2MsbM2 (d : Bool) : EncodesWhenDeliverable.Statement (.modesetC2MsbM2 d) := rfl
theorem EncodesWhenDeliverable.modesetC2MsbM3 (d : Bool) : EncodesWhenDeliverable.Statement (.modesetC2MsbM3 d) := rfl
theorem EncodesWhenDeliverable.modesetC2MsbM4 (d : Bool) : EncodesWhenDeliverable.Statement (.modesetC2MsbM4 d) := rfl
theorem EncodesWhenDeliverable.modesetC2MsbM5 (d : Bool) : EncodesWhenDeliverable.Statement (.modesetC2MsbM5 d) := rfl
theorem EncodesWhenDeliverable.modesetC2MsbM6 (d : Bool) : EncodesWhenDeliverable.Statement (.modesetC2MsbM6 d) := rfl
theorem EncodesWhenDeliverable.modesetC2MsbM7 (d : Bool) : EncodesWhenDeliverable.Statement (.modesetC2MsbM7 d) := rfl
theorem EncodesWhenDeliverable.modesetC2LsbmsbM0 (d : Bool) : EncodesWhenDeliverable.Statement (.modesetC2LsbmsbM0 d) := rfl
theorem EncodesWhenDeliverable.modesetC2LsbmsbM1 (d : Bool) : EncodesWhenDeliverable.Statement (.modesetC2LsbmsbM1 d) := rfl
theorem EncodesWhenDeliverable.modesetC2LsbmsbM2 (d : Bool) : EncodesWhenDeliverable.Statement (.modesetC2LsbmsbM2 d) := rfl
theorem EncodesWhenDeliverable.modesetC2LsbmsbM3 (d : Bool) : EncodesWhenDeliverable.Statement (.modesetC2LsbmsbM3 d) := rfl
theorem EncodesWhenDeliverable.modesetC2LsbmsbM4 (d : Bool) : EncodesWhenDeliverable.Statement (.modesetC2LsbmsbM4 d) := rfl
theorem EncodesWhenDeliverable.modesetC2LsbmsbM5 (d : Bool) : EncodesWhenDeliverable.Statement (.modesetC2LsbmsbM5 d) := rfl
theorem EncodesWhenDeliverable.modesetC2LsbmsbM6 (d : Bool) : EncodesWhenDeliverable.Statement (.modesetC2LsbmsbM6 d) := rfl
theorem EncodesWhenDeliverable.modesetC2LsbmsbM7 (d : Bool) : EncodesWhenDeliverable.Statement (.modesetC2LsbmsbM7 d) := rfl
theorem EncodesWhenDeliverable.readData0 : EncodesWhenDeliverable.Statement .readData0 := rfl
theorem EncodesWhenDeliverable.readData1 : EncodesWhenDeliverable.Statement .readData1 := rfl
theorem EncodesWhenDeliverable.readData2 : EncodesWhenDeliverable.Statement .readData2 := rfl
theorem EncodesWhenDeliverable.readCtrl : EncodesWhenDeliverable.Statement .readCtrl := rfl
theorem EncodesWhenDeliverable.writeData0 (b : Byte) : EncodesWhenDeliverable.Statement (.writeData0 b) := rfl
theorem EncodesWhenDeliverable.writeData1 (b : Byte) : EncodesWhenDeliverable.Statement (.writeData1 b) := rfl
theorem EncodesWhenDeliverable.writeData2 (b : Byte) : EncodesWhenDeliverable.Statement (.writeData2 b) := rfl
theorem EncodesWhenDeliverable.writeCtrl (b : Byte) : EncodesWhenDeliverable.Statement (.writeCtrl b) := rfl
theorem EncodesWhenDeliverable.setGate (c : Channel) (g : Level) : EncodesWhenDeliverable.Statement (.setGate c g) := rfl
theorem EncodesWhenDeliverable.tick : EncodesWhenDeliverable.Statement .tick := rfl
theorem EncodesWhenDeliverable.chTick (c : Channel) : EncodesWhenDeliverable.Statement (.chTick c) := rfl
theorem EncodesWhenDeliverable.reset : EncodesWhenDeliverable.Statement .reset := rfl
theorem EncodesWhenDeliverable.loadCycle (c : Channel) : EncodesWhenDeliverable.Statement (.loadCycle c) := rfl
theorem EncodesWhenDeliverable.placeholderLoad (c : Channel) : EncodesWhenDeliverable.Statement (.placeholderLoad c) := rfl
theorem EncodesWhenDeliverable.countMode0 (c : Channel) : EncodesWhenDeliverable.Statement (.countMode0 c) := rfl
theorem EncodesWhenDeliverable.countMode1 (c : Channel) : EncodesWhenDeliverable.Statement (.countMode1 c) := rfl
theorem EncodesWhenDeliverable.countMode2 (c : Channel) : EncodesWhenDeliverable.Statement (.countMode2 c) := rfl
theorem EncodesWhenDeliverable.countMode3 (c : Channel) : EncodesWhenDeliverable.Statement (.countMode3 c) := rfl
theorem EncodesWhenDeliverable.countMode4 (c : Channel) : EncodesWhenDeliverable.Statement (.countMode4 c) := rfl
theorem EncodesWhenDeliverable.countMode5 (c : Channel) : EncodesWhenDeliverable.Statement (.countMode5 c) := rfl
theorem EncodesWhenDeliverable.completeLoad (c : Channel) : EncodesWhenDeliverable.Statement (.completeLoad c) := rfl
theorem EncodesWhenDeliverable.latchOp (c : Channel) : EncodesWhenDeliverable.Statement (.latchOp c) := rfl

end Sys2Proof.Laws
end

