-- ==== Sys2Proof/Tests/Slice0.lean ====
section
/-!
SUPPORT. Tests on single inputs and single operations, with the values of 95_test_vectors.md and 44_tick.md rule R167,
and one witness for the hypotheses of each obligation that has some.
-/

namespace Sys2Proof.Tests

open Sys2Proof.Machine

/-! Well-formedness (R67, R73): each check with a term it refuses. -/

theorem test_internal_is_not_delivered :
    Instr.wellFormed .early (.loadCycle .ch0) = false ∧ Instr.wellFormed .early (.placeholderLoad .ch1) = false ∧
    Instr.wellFormed .early (.countMode0 .ch0) = false ∧ Instr.wellFormed .early (.countMode1 .ch1) = false ∧
    Instr.wellFormed .early (.countMode2 .ch2) = false ∧ Instr.wellFormed .late (.countMode3 .ch0) = false ∧
    Instr.wellFormed .late (.countMode4 .ch1) = false ∧ Instr.wellFormed .late (.countMode5 .ch2) = false ∧
    Instr.wellFormed .late (.completeLoad .ch0) = false ∧ Instr.wellFormed .late (.latchOp .ch0) = false := by decide

theorem test_readback_row_is_of_its_variant :
    Instr.wellFormed .late .readbackEarly = false ∧ Instr.wellFormed .early .readbackLate = false ∧
    Instr.wellFormed .early .readbackEarly = true ∧ Instr.wellFormed .late .readbackLate = true := by decide

/-! Decoding: words written out from the fields of R60, `cc aa mmm d`, one for each row (bit 0 clear in the even modes and
set in the odd ones). -/

theorem test_decode_modeset_c0_lsb :
    decodeControl .early 0b00010000 = .modesetC0LsbM0 false ∧
    decodeControl .early 0b00010011 = .modesetC0LsbM1 true ∧
    decodeControl .early 0b00010100 = .modesetC0LsbM2 false ∧
    decodeControl .early 0b00010111 = .modesetC0LsbM3 true ∧
    decodeControl .early 0b00011000 = .modesetC0LsbM4 false ∧
    decodeControl .early 0b00011011 = .modesetC0LsbM5 true ∧
    decodeControl .early 0b00011100 = .modesetC0LsbM6 false ∧
    decodeControl .early 0b00011111 = .modesetC0LsbM7 true := by decide

theorem test_decode_modeset_c0_msb :
    decodeControl .early 0b00100000 = .modesetC0MsbM0 false ∧
    decodeControl .early 0b00100011 = .modesetC0MsbM1 true ∧
    decodeControl .early 0b00100100 = .modesetC0MsbM2 false ∧
    decodeControl .early 0b00100111 = .modesetC0MsbM3 true ∧
    decodeControl .early 0b00101000 = .modesetC0MsbM4 false ∧
    decodeControl .early 0b00101011 = .modesetC0MsbM5 true ∧
    decodeControl .early 0b00101100 = .modesetC0MsbM6 false ∧
    decodeControl .early 0b00101111 = .modesetC0MsbM7 true := by decide

theorem test_decode_modeset_c0_lsbmsb :
    decodeControl .early 0b00110000 = .modesetC0LsbmsbM0 false ∧
    decodeControl .early 0b00110011 = .modesetC0LsbmsbM1 true ∧
    decodeControl .early 0b00110100 = .modesetC0LsbmsbM2 false ∧
    decodeControl .early 0b00110111 = .modesetC0LsbmsbM3 true ∧
    decodeControl .early 0b00111000 = .modesetC0LsbmsbM4 false ∧
    decodeControl .early 0b00111011 = .modesetC0LsbmsbM5 true ∧
    decodeControl .early 0b00111100 = .modesetC0LsbmsbM6 false ∧
    decodeControl .early 0b00111111 = .modesetC0LsbmsbM7 true := by decide

theorem test_decode_modeset_c1_lsb :
    decodeControl .early 0b01010000 = .modesetC1LsbM0 false ∧
    decodeControl .early 0b01010011 = .modesetC1LsbM1 true ∧
    decodeControl .early 0b01010100 = .modesetC1LsbM2 false ∧
    decodeControl .early 0b01010111 = .modesetC1LsbM3 true ∧
    decodeControl .early 0b01011000 = .modesetC1LsbM4 false ∧
    decodeControl .early 0b01011011 = .modesetC1LsbM5 true ∧
    decodeControl .early 0b01011100 = .modesetC1LsbM6 false ∧
    decodeControl .early 0b01011111 = .modesetC1LsbM7 true := by decide

theorem test_decode_modeset_c1_msb :
    decodeControl .early 0b01100000 = .modesetC1MsbM0 false ∧
    decodeControl .early 0b01100011 = .modesetC1MsbM1 true ∧
    decodeControl .early 0b01100100 = .modesetC1MsbM2 false ∧
    decodeControl .early 0b01100111 = .modesetC1MsbM3 true ∧
    decodeControl .early 0b01101000 = .modesetC1MsbM4 false ∧
    decodeControl .early 0b01101011 = .modesetC1MsbM5 true ∧
    decodeControl .early 0b01101100 = .modesetC1MsbM6 false ∧
    decodeControl .early 0b01101111 = .modesetC1MsbM7 true := by decide

theorem test_decode_modeset_c1_lsbmsb :
    decodeControl .early 0b01110000 = .modesetC1LsbmsbM0 false ∧
    decodeControl .early 0b01110011 = .modesetC1LsbmsbM1 true ∧
    decodeControl .early 0b01110100 = .modesetC1LsbmsbM2 false ∧
    decodeControl .early 0b01110111 = .modesetC1LsbmsbM3 true ∧
    decodeControl .early 0b01111000 = .modesetC1LsbmsbM4 false ∧
    decodeControl .early 0b01111011 = .modesetC1LsbmsbM5 true ∧
    decodeControl .early 0b01111100 = .modesetC1LsbmsbM6 false ∧
    decodeControl .early 0b01111111 = .modesetC1LsbmsbM7 true := by decide

theorem test_decode_modeset_c2_lsb :
    decodeControl .early 0b10010000 = .modesetC2LsbM0 false ∧
    decodeControl .early 0b10010011 = .modesetC2LsbM1 true ∧
    decodeControl .early 0b10010100 = .modesetC2LsbM2 false ∧
    decodeControl .early 0b10010111 = .modesetC2LsbM3 true ∧
    decodeControl .early 0b10011000 = .modesetC2LsbM4 false ∧
    decodeControl .early 0b10011011 = .modesetC2LsbM5 true ∧
    decodeControl .early 0b10011100 = .modesetC2LsbM6 false ∧
    decodeControl .early 0b10011111 = .modesetC2LsbM7 true := by decide

theorem test_decode_modeset_c2_msb :
    decodeControl .early 0b10100000 = .modesetC2MsbM0 false ∧
    decodeControl .early 0b10100011 = .modesetC2MsbM1 true ∧
    decodeControl .early 0b10100100 = .modesetC2MsbM2 false ∧
    decodeControl .early 0b10100111 = .modesetC2MsbM3 true ∧
    decodeControl .early 0b10101000 = .modesetC2MsbM4 false ∧
    decodeControl .early 0b10101011 = .modesetC2MsbM5 true ∧
    decodeControl .early 0b10101100 = .modesetC2MsbM6 false ∧
    decodeControl .early 0b10101111 = .modesetC2MsbM7 true := by decide

theorem test_decode_modeset_c2_lsbmsb :
    decodeControl .early 0b10110000 = .modesetC2LsbmsbM0 false ∧
    decodeControl .early 0b10110011 = .modesetC2LsbmsbM1 true ∧
    decodeControl .early 0b10110100 = .modesetC2LsbmsbM2 false ∧
    decodeControl .early 0b10110111 = .modesetC2LsbmsbM3 true ∧
    decodeControl .early 0b10111000 = .modesetC2LsbmsbM4 false ∧
    decodeControl .early 0b10111011 = .modesetC2LsbmsbM5 true ∧
    decodeControl .early 0b10111100 = .modesetC2LsbmsbM6 false ∧
    decodeControl .early 0b10111111 = .modesetC2LsbmsbM7 true := by decide

theorem test_decode_latch :
    decodeControl .early 0b00000000 = .latch0 ∧ decodeControl .early 0b01000000 = .latch1 ∧
    decodeControl .late 0b10000000 = .latch2 ∧ decodeControl .early 0b01001111 = .latch1 := by decide

theorem test_decode_readback :
    decodeControl .early 0b11000000 = .readbackEarly ∧ decodeControl .late 0b11000000 = .readbackLate ∧
    decodeControl .early 0b11000010 = .readbackEarly ∧ decodeControl .late 0b11111111 = .readbackLate := by decide

/-- The eight codes of R70. -/
theorem test_decode_bus :
    decodeBus 0b000 0x5A = .readData0 ∧ decodeBus 0b001 0x5A = .readData1 ∧ decodeBus 0b010 0x5A = .readData2 ∧
    decodeBus 0b011 0x5A = .readCtrl ∧ decodeBus 0b100 0x5A = .writeData0 0x5A ∧
    decodeBus 0b101 0x5A = .writeData1 0x5A ∧ decodeBus 0b110 0x5A = .writeData2 0x5A ∧
    decodeBus 0b111 0x5A = .writeCtrl 0x5A := by decide

theorem test_decode_pins :
    decode .early (.setGate .ch1 .high) = .setGate .ch1 .high ∧ decode .early .tick = .tick ∧
    decode .late (.chTick .ch2) = .chTick .ch2 ∧ decode .late .reset = .reset := by decide

/-- The `match` column of the opcode table. -/
theorem test_encode_words :
    encode .readbackEarly = some (.control 0xC0) ∧ encode .latch2 = some (.control 0x80) ∧
    encode (.modesetC2LsbmsbM5 true) = some (.control 0xBB) ∧ encode (.modesetC0MsbM0 false) = some (.control 0x20) ∧
    encode (.writeCtrl 0x36) = some (.bus 0b111 0x36) ∧ encode (.countMode3 .ch0) = none := by decide

theorem test_table_words :
    decodeTableWord 8 0x00 = some .latch0 ∧ decodeTableWord 8 0x34 = some (.modesetC0LsbmsbM2 false) ∧
    decodeTableWord 8 0x01 = some .readData1 ∧ decodeTableWord 8 0x07 = some (.writeCtrl 0x00) ∧
    decodeTableWord 3 0x00 = some .readData0 ∧ decodeTableWord 8 0xC0 = some .readbackEarly := by decide

/-! Arithmetic. -/

/-- R167, all eleven rows. -/
theorem test_dec :
    dec 0x0000 false = 0xFFFF ∧ dec 0x0000 true = 0x9999 ∧
    dec 0x0001 false = 0x0000 ∧ dec 0x0001 true = 0x0000 ∧
    dec 0x0010 false = 0x000F ∧ dec 0x0010 true = 0x0009 ∧
    dec 0x0100 false = 0x00FF ∧ dec 0x0100 true = 0x0099 ∧
    dec 0x1000 false = 0x0FFF ∧ dec 0x1000 true = 0x0999 ∧
    dec 0x9999 false = 0x9998 ∧ dec 0x9999 true = 0x9998 ∧
    dec 0x000A false = 0x0009 ∧ dec 0x000A true = 0x0009 ∧
    dec 0x00A0 false = 0x009F ∧ dec 0x00A0 true = 0x0099 ∧
    dec 0x0A00 false = 0x09FF ∧ dec 0x0A00 true = 0x0999 ∧
    dec 0xF000 false = 0xEFFF ∧ dec 0xF000 true = 0xE999 ∧
    dec 0xFFFF false = 0xFFFE ∧ dec 0xFFFF true = 0xFFFE := by decide

/-- R169 and vector T2. -/
theorem test_decK :
    decK 2 0x0001 false = 0xFFFF ∧ decK 2 0x0002 false = 0x0000 ∧ decK 3 0x0003 false = 0x0000 ∧
    decK 3 0x0001 false = 0xFFFE ∧ decK 2 0x0000 true = 0x9998 ∧ decK 2 0x0001 true = 0x9999 ∧
    decK 2 0x0010 true = 0x0008 ∧ decK 3 0x0001 true = 0x9998 := by decide

/-! One operation on a small state. -/

/-- The parameters of the vectors: `PLACEHOLDER` is 0x0003 and the gates start HIGH. -/
def params (v : Variant) : Params :=
  { variant := v, placeholder := 0x0003,
    channel0 := Config.resetChannel, channel1 := Config.resetChannel, channel2 := Config.resetChannel }

/-- A fresh instance with `ch` as channel `c`. -/
def withChan (v : Variant) (c : Channel) (ch : Chan) : State := (State.create (params v)).setChan c ch

/-- A channel that counts in mode `m` with the counter at `ce`, the count `cr`, the output `o` and the gate HIGH. -/
def counting (v : Variant) (m : Mode) (cr ce : Count) (o : Level) : Chan :=
  { Chan.create v Config.resetChannel with
    mode := m, loadMask := loadMaskOf v m, countRegister := cr, countingElement := ce, output := o,
    armed := true, loadPhase := .subsequent, countingState := .counting }

/-- The operation answers a next state of which `p` holds. -/
def answers (i : Instr) (s : State) (p : State → Bool) : Bool :=
  match exec i s with
  | .next t => p t
  | .fault _ => false
  | .refused _ => false

/-- A mode set stores these three fields, from a channel with none of them. -/
def stores (i : Instr) (c : Channel) (a : Access) (m : Mode) (d : Bool) : Bool :=
  let dirty := { counting .late .mode5 0x1234 0x0003 .low with access := if a = .lsb then .msb else .lsb, bcd := !d }
  answers i (withChan .late c dirty) fun t =>
    decide ((t.chan c).access = a) && decide ((t.chan c).mode = m) && ((t.chan c).bcd == d)

theorem test_modeset_c0_stores_its_fields :
    stores (.modesetC0LsbM0 true) .ch0 .lsb .mode0 true = true ∧
    stores (.modesetC0LsbM1 false) .ch0 .lsb .mode1 false = true ∧
    stores (.modesetC0LsbM2 true) .ch0 .lsb .mode2 true = true ∧
    stores (.modesetC0LsbM3 false) .ch0 .lsb .mode3 false = true ∧
    stores (.modesetC0LsbM4 true) .ch0 .lsb .mode4 true = true ∧
    stores (.modesetC0LsbM5 false) .ch0 .lsb .mode5 false = true ∧
    stores (.modesetC0LsbM6 true) .ch0 .lsb .mode2 true = true ∧
    stores (.modesetC0LsbM7 false) .ch0 .lsb .mode3 false = true ∧
    stores (.modesetC0MsbM0 true) .ch0 .msb .mode0 true = true ∧
    stores (.modesetC0MsbM1 false) .ch0 .msb .mode1 false = true ∧
    stores (.modesetC0MsbM2 true) .ch0 .msb .mode2 true = true ∧
    stores (.modesetC0MsbM3 false) .ch0 .msb .mode3 false = true ∧
    stores (.modesetC0MsbM4 true) .ch0 .msb .mode4 true = true ∧
    stores (.modesetC0MsbM5 false) .ch0 .msb .mode5 false = true ∧
    stores (.modesetC0MsbM6 true) .ch0 .msb .mode2 true = true ∧
    stores (.modesetC0MsbM7 false) .ch0 .msb .mode3 false = true ∧
    stores (.modesetC0LsbmsbM0 true) .ch0 .lsbMsb .mode0 true = true ∧
    stores (.modesetC0LsbmsbM1 false) .ch0 .lsbMsb .mode1 false = true ∧
    stores (.modesetC0LsbmsbM2 true) .ch0 .lsbMsb .mode2 true = true ∧
    stores (.modesetC0LsbmsbM3 false) .ch0 .lsbMsb .mode3 false = true ∧
    stores (.modesetC0LsbmsbM4 true) .ch0 .lsbMsb .mode4 true = true ∧
    stores (.modesetC0LsbmsbM5 false) .ch0 .lsbMsb .mode5 false = true ∧
    stores (.modesetC0LsbmsbM6 true) .ch0 .lsbMsb .mode2 true = true ∧
    stores (.modesetC0LsbmsbM7 false) .ch0 .lsbMsb .mode3 false = true := by decide

theorem test_modeset_c1_stores_its_fields :
    stores (.modesetC1LsbM0 true) .ch1 .lsb .mode0 true = true ∧
    stores (.modesetC1LsbM1 false) .ch1 .lsb .mode1 false = true ∧
    stores (.modesetC1LsbM2 true) .ch1 .lsb .mode2 true = true ∧
    stores (.modesetC1LsbM3 false) .ch1 .lsb .mode3 false = true ∧
    stores (.modesetC1LsbM4 true) .ch1 .lsb .mode4 true = true ∧
    stores (.modesetC1LsbM5 false) .ch1 .lsb .mode5 false = true ∧
    stores (.modesetC1LsbM6 true) .ch1 .lsb .mode2 true = true ∧
    stores (.modesetC1LsbM7 false) .ch1 .lsb .mode3 false = true ∧
    stores (.modesetC1MsbM0 true) .ch1 .msb .mode0 true = true ∧
    stores (.modesetC1MsbM1 false) .ch1 .msb .mode1 false = true ∧
    stores (.modesetC1MsbM2 true) .ch1 .msb .mode2 true = true ∧
    stores (.modesetC1MsbM3 false) .ch1 .msb .mode3 false = true ∧
    stores (.modesetC1MsbM4 true) .ch1 .msb .mode4 true = true ∧
    stores (.modesetC1MsbM5 false) .ch1 .msb .mode5 false = true ∧
    stores (.modesetC1MsbM6 true) .ch1 .msb .mode2 true = true ∧
    stores (.modesetC1MsbM7 false) .ch1 .msb .mode3 false = true ∧
    stores (.modesetC1LsbmsbM0 true) .ch1 .lsbMsb .mode0 true = true ∧
    stores (.modesetC1LsbmsbM1 false) .ch1 .lsbMsb .mode1 false = true ∧
    stores (.modesetC1LsbmsbM2 true) .ch1 .lsbMsb .mode2 true = true ∧
    stores (.modesetC1LsbmsbM3 false) .ch1 .lsbMsb .mode3 false = true ∧
    stores (.modesetC1LsbmsbM4 true) .ch1 .lsbMsb .mode4 true = true ∧
    stores (.modesetC1LsbmsbM5 false) .ch1 .lsbMsb .mode5 false = true ∧
    stores (.modesetC1LsbmsbM6 true) .ch1 .lsbMsb .mode2 true = true ∧
    stores (.modesetC1LsbmsbM7 false) .ch1 .lsbMsb .mode3 false = true := by decide

theorem test_modeset_c2_stores_its_fields :
    stores (.modesetC2LsbM0 true) .ch2 .lsb .mode0 true = true ∧
    stores (.modesetC2LsbM1 false) .ch2 .lsb .mode1 false = true ∧
    stores (.modesetC2LsbM2 true) .ch2 .lsb .mode2 true = true ∧
    stores (.modesetC2LsbM3 false) .ch2 .lsb .mode3 false = true ∧
    stores (.modesetC2LsbM4 true) .ch2 .lsb .mode4 true = true ∧
    stores (.modesetC2LsbM5 false) .ch2 .lsb .mode5 false = true ∧
    stores (.modesetC2LsbM6 true) .ch2 .lsb .mode2 true = true ∧
    stores (.modesetC2LsbM7 false) .ch2 .lsb .mode3 false = true ∧
    stores (.modesetC2MsbM0 true) .ch2 .msb .mode0 true = true ∧
    stores (.modesetC2MsbM1 false) .ch2 .msb .mode1 false = true ∧
    stores (.modesetC2MsbM2 true) .ch2 .msb .mode2 true = true ∧
    stores (.modesetC2MsbM3 false) .ch2 .msb .mode3 false = true ∧
    stores (.modesetC2MsbM4 true) .ch2 .msb .mode4 true = true ∧
    stores (.modesetC2MsbM5 false) .ch2 .msb .mode5 false = true ∧
    stores (.modesetC2MsbM6 true) .ch2 .msb .mode2 true = true ∧
    stores (.modesetC2MsbM7 false) .ch2 .msb .mode3 false = true ∧
    stores (.modesetC2LsbmsbM0 true) .ch2 .lsbMsb .mode0 true = true ∧
    stores (.modesetC2LsbmsbM1 false) .ch2 .lsbMsb .mode1 false = true ∧
    stores (.modesetC2LsbmsbM2 true) .ch2 .lsbMsb .mode2 true = true ∧
    stores (.modesetC2LsbmsbM3 false) .ch2 .lsbMsb .mode3 false = true ∧
    stores (.modesetC2LsbmsbM4 true) .ch2 .lsbMsb .mode4 true = true ∧
    stores (.modesetC2LsbmsbM5 false) .ch2 .lsbMsb .mode5 false = true ∧
    stores (.modesetC2LsbmsbM6 true) .ch2 .lsbMsb .mode2 true = true ∧
    stores (.modesetC2LsbmsbM7 false) .ch2 .lsbMsb .mode3 false = true := by decide

/-- Vector S1. -/
theorem test_modeset_forces_output :
    (answers (.modesetC0LsbM0 false) (withChan .early .ch0 (counting .early .mode2 0x0004 0x0003 .high)) fun t =>
      decide (t.ch0.countingElement = 0x0000) && decide (t.ch0.output = .low) && decide (t.ch0.armed = false)) = true ∧
    (answers (.modesetC0LsbM4 false) (withChan .early .ch0 (counting .early .mode0 0x0004 0x0003 .low)) fun t =>
      decide (t.ch0.output = .high) && decide (t.ch0.countingState = .waitingForReload)) = true := by decide

/-- R84: the mask of mode 3 on `Late`. -/
theorem test_modeset_mask :
    (answers (.modesetC2LsbM3 false) (withChan .late .ch2 (counting .late .mode2 4 3 .high)) fun t =>
      decide (t.ch2.loadMask = 0xFFFE)) = true ∧
    (answers (.modesetC2LsbM3 false) (withChan .early .ch2 (counting .early .mode2 4 3 .high)) fun t =>
      decide (t.ch2.loadMask = 0xFFFF)) = true := by decide

/-- Program P4, rows 5 and 7. -/
theorem test_latch0 :
    (answers .latch0 (withChan .early .ch0 (counting .early .mode0 0xBEEF 0xBEEF .low)) fun t =>
      decide (t.ch0.countLatch = 0xBEEF) && t.ch0.latched) = true ∧
    (answers .latch0
      (withChan .early .ch0 { counting .early .mode0 0xBEEF 0xBEEE .low with countLatch := 0xBEEF, latched := true })
      fun t => decide (t.ch0.countLatch = 0xBEEF) && t.ch0.latched) = true := by decide

theorem test_latch1_latch2_latchOp :
    (answers .latch1 (withChan .early .ch1 (counting .early .mode2 5 4 .high)) fun t =>
      decide (t.ch1.countLatch = 4) && t.ch1.latched && !t.ch0.latched) = true ∧
    (answers .latch2 (withChan .early .ch2 (counting .early .mode2 5 4 .high)) fun t =>
      decide (t.ch2.countLatch = 4) && t.ch2.latched && !t.ch1.latched) = true ∧
    (answers (.latchOp .ch1) (withChan .early .ch1 (counting .early .mode2 5 4 .high)) fun t =>
      decide (t.ch1.countLatch = 4) && t.ch1.latched) = true := by decide

/-- Vector K1, row 5, and R88. -/
theorem test_readback :
    (answers .readbackEarly (withChan .early .ch0 (counting .early .mode2 2 1 .low)) fun t =>
      decide (t = withChan .early .ch0 (counting .early .mode2 2 1 .low))) = true ∧
    (match exec .readbackLate (State.create (params .late)) with
      | .refused r => decide (r = .readbackUndescribed)
      | _ => false) = true := by decide

/-- Vector X5: the low byte live, and the high byte from a snapshot taken in between. -/
theorem test_readData0 :
    (answers .readData0 (withChan .early .ch0 { counting .early .mode2 0x0100 0x0100 .high with access := .lsbMsb })
      fun t => decide (t.dataOut = some 0x00) && decide (t.ch0.readState = .secondByte)) = true ∧
    (answers .readData0
      (withChan .early .ch0 { counting .early .mode2 0x0100 0x02FE .high with
        access := .lsbMsb, readState := .secondByte, countLatch := 0x01FF, latched := true })
      fun t => decide (t.dataOut = some 0x01) && decide (t.ch0.readState = .firstByte) && !t.ch0.latched) = true := by
  decide

/-- Vector X4 on channel 1 and program P5, row 12. -/
theorem test_readData1_readData2 :
    (answers .readData1 (withChan .early .ch1 { counting .early .mode0 0x0100 0x0100 .low with access := .msb })
      fun t => decide (t.dataOut = some 0x01)) = true ∧
    (answers .readData2 (withChan .early .ch2 (counting .early .mode3 4 4 .low))
      fun t => decide (t.dataOut = some 0x04)) = true := by decide

theorem test_readCtrl_refused :
    (match exec .readCtrl State.reset with
      | .refused r => decide (r = .controlPortRead)
      | _ => false) = true := by decide

/-- Vectors W1 and W5, row 6. -/
theorem test_writeData0 :
    (answers (.writeData0 0x03) State.reset fun t =>
      decide (t.ch0.countRegister = 0x0003) && t.ch0.armed && decide (t.ch0.countingState = .waitingForLoadCycle)) = true ∧
    (answers (.writeData0 0x05) (withChan .early .ch0 { counting .early .mode0 0x0003 0x0002 .high with access := .lsbMsb })
      fun t => decide (t.ch0.countRegister = 0x0005) && decide (t.ch0.countingState = .waitingForReload) &&
        decide (t.ch0.output = .low) && decide (t.ch0.loadState = .secondByte)) = true := by decide

/-- Vectors W2 and W3 on the other two channels. -/
theorem test_writeData1_writeData2 :
    (answers (.writeData1 0x01) (withChan .early .ch1 { Chan.create .early Config.resetChannel with access := .msb })
      fun t => decide (t.ch1.countRegister = 0x0100) && t.ch1.armed) = true ∧
    (answers (.writeData2 0xBE)
      (withChan .early .ch2 { Chan.create .early Config.resetChannel with
        access := .lsbMsb, countRegister := 0x00EF, loadState := .secondByte })
      fun t => decide (t.ch2.countRegister = 0xBEEF) && decide (t.ch2.loadState = .firstByte) && t.ch2.armed) = true := by
  decide

theorem test_writeCtrl :
    (answers (.writeCtrl 0x36) State.reset fun t =>
      decide (t.ch0.mode = .mode3) && decide (t.ch0.access = .lsbMsb)) = true ∧
    (answers (.writeCtrl 0x40) (withChan .early .ch1 (counting .early .mode2 5 4 .high)) fun t =>
      decide (t.ch1.countLatch = 4)) = true := by decide

/-- Vectors G2, row 4, and G3, row 2. -/
theorem test_setGate_low :
    (answers (.setGate .ch0 .low) (withChan .early .ch0 (counting .early .mode3 4 4 .low)) fun t =>
      decide (t.ch0.output = .high) && decide (t.ch0.countingState = .waitingForGate)) = true ∧
    (answers (.setGate .ch0 .low) (withChan .early .ch0 (counting .early .mode0 2 2 .low)) fun t =>
      decide (t.ch0.gate = .low) && decide (t.ch0.countingState = .counting)) = true := by decide

/-- Vectors G1, row 5, and G5. -/
theorem test_setGate_high :
    (answers (.setGate .ch0 .high)
      (withChan .early .ch0 { counting .early .mode2 3 2 .high with gate := .low, countingState := .waitingForGate })
      fun t => decide (t.ch0.countingState = .waitingForLoadCycle)) = true ∧
    (answers (.setGate .ch0 .high)
      (withChan .early .ch0 { Chan.create .early Config.resetChannel with mode := .mode1, gate := .low })
      fun t => decide (t.ch0.gate = .high) && decide (t.ch0.countingState = .waitingForReload)) = true := by decide

/-- Program P5, row 9, on two channels. -/
theorem test_tick :
    (answers .tick ((withChan .early .ch0 (counting .early .mode0 2 1 .low)).setChan .ch1 (counting .early .mode2 3 2 .high))
      fun t => decide (t.ch0.countingElement = 0) && decide (t.ch0.output = .high) &&
        decide (t.ch1.countingElement = 1) && decide (t.ch1.countingState = .waitingForLoadCycle)) = true := by decide

/-- Vector M1a, row 3, and an idle channel (vector T3). -/
theorem test_chTick :
    (answers (.chTick .ch1)
      (withChan .early .ch1 { counting .early .mode1 4 0 .high with countingState := .waitingForLoadTrigger })
      fun t => decide (t.ch1.countingElement = 0x0003) && t.ch1.ceUndefined) = true ∧
    (answers (.chTick .ch1) (State.create (params .early)) fun t => decide (t = State.create (params .early))) = true := by
  decide

/-- Vector Z1, channel 2: mode 3 on `Late`. -/
theorem test_reset :
    (answers .reset
      { withChan .late .ch2 { counting .late .mode2 5 4 .low with gate := .low, countLatch := 7, latched := true } with
        params := { params .late with
          channel2 := { resetMode := .mode3, resetAccess := .lsbMsb, resetBcd := false, gateInit := .high } } }
      fun t => decide (t.ch2.mode = .mode3) && decide (t.ch2.loadMask = 0xFFFE) && decide (t.ch2.countLatch = 0) &&
        decide (t.ch2.gate = .low)) = true := by decide

/-- Vector M3d, row 1, and vector M1a, row 8. -/
theorem test_loadCycle :
    (answers (.loadCycle .ch0) (withChan .late .ch0 (counting .late .mode3 5 0 .low)) fun t =>
      decide (t.ch0.countingElement = 0x0004) && decide (t.ch0.output = .high)) = true ∧
    (answers (.loadCycle .ch0) (withChan .early .ch0 { counting .early .mode1 4 1 .high with ceUndefined := true })
      fun t => decide (t.ch0.countingElement = 4) && decide (t.ch0.output = .low) && !t.ch0.ceUndefined) = true := by decide

theorem test_placeholderLoad :
    (answers (.placeholderLoad .ch2) (withChan .late .ch2 (counting .late .mode5 4 0 .high)) fun t =>
      decide (t.ch2.countingElement = 0x0003) && t.ch2.ceUndefined) = true := by decide

/-- Vector S2, last two ticks. -/
theorem test_countMode0 :
    (answers (.countMode0 .ch0) (withChan .early .ch0 (counting .early .mode0 3 1 .low)) fun t =>
      decide (t.ch0.countingElement = 0) && decide (t.ch0.output = .high)) = true ∧
    (answers (.countMode0 .ch0) (withChan .early .ch0 (counting .early .mode0 3 0 .high)) fun t =>
      decide (t.ch0.countingElement = 0xFFFF) && decide (t.ch0.output = .high)) = true := by decide

/-- Vector M1a, rows 6 and 12. -/
theorem test_countMode1 :
    (answers (.countMode1 .ch0) (withChan .early .ch0 { counting .early .mode1 4 2 .high with gate := .low }) fun t =>
      decide (t.ch0.countingElement = 1)) = true ∧
    (answers (.countMode1 .ch0) (withChan .early .ch0 (counting .early .mode1 4 1 .low)) fun t =>
      decide (t.ch0.countingElement = 0) && decide (t.ch0.output = .high)) = true := by decide

/-- Vector T4: the last tick of a period in BCD, and a borrow. -/
theorem test_countMode2 :
    (answers (.countMode2 .ch0) (withChan .early .ch0 { counting .early .mode2 0x10 0x02 .high with bcd := true }) fun t =>
      decide (t.ch0.countingElement = 1) && decide (t.ch0.output = .low)) = true ∧
    (answers (.countMode2 .ch0) (withChan .early .ch0 { counting .early .mode2 0x10 0x10 .high with bcd := true }) fun t =>
      decide (t.ch0.countingElement = 0x0009) && decide (t.ch0.output = .high)) = true := by decide

/-- Vector M3c, ticks 2, 4 and 5 (`Early`). -/
theorem test_countMode3_early :
    (answers (.countMode3 .ch0) (withChan .early .ch0 (counting .early .mode3 5 5 .high)) fun t =>
      decide (t.ch0.countingElement = 4) && decide (t.ch0.output = .high)) = true ∧
    (answers (.countMode3 .ch0) (withChan .early .ch0 (counting .early .mode3 5 2 .high)) fun t =>
      decide (t.ch0.countingElement = 5) && decide (t.ch0.output = .low)) = true ∧
    (answers (.countMode3 .ch0) (withChan .early .ch0 (counting .early .mode3 5 5 .low)) fun t =>
      decide (t.ch0.countingElement = 2) && decide (t.ch0.output = .low)) = true := by decide

/-- Vector M3d, ticks 3, 4 and 6 (`Late`). -/
theorem test_countMode3_late :
    (answers (.countMode3 .ch0) (withChan .late .ch0 (counting .late .mode3 5 2 .high)) fun t =>
      decide (t.ch0.countingElement = 0) && decide (t.ch0.output = .high)) = true ∧
    (answers (.countMode3 .ch0) (withChan .late .ch0 (counting .late .mode3 5 0 .high)) fun t =>
      decide (t.ch0.countingElement = 4) && decide (t.ch0.output = .low)) = true ∧
    (answers (.countMode3 .ch0) (withChan .late .ch0 (counting .late .mode3 5 2 .low)) fun t =>
      decide (t.ch0.countingElement = 4) && decide (t.ch0.output = .high)) = true := by decide

/-- Vector M4a, rows 8 and 9. -/
theorem test_countMode4 :
    (answers (.countMode4 .ch0) (withChan .early .ch0 (counting .early .mode4 2 1 .high)) fun t =>
      decide (t.ch0.countingElement = 0) && decide (t.ch0.output = .low)) = true ∧
    (answers (.countMode4 .ch0) (withChan .early .ch0 (counting .early .mode4 2 0 .low)) fun t =>
      decide (t.ch0.countingElement = 0xFFFF) && decide (t.ch0.output = .high)) = true := by decide

/-- Vector M5a, row 6: the gate is LOW. -/
theorem test_countMode5 :
    (answers (.countMode5 .ch0) (withChan .early .ch0 { counting .early .mode5 2 1 .high with gate := .low }) fun t =>
      decide (t.ch0.countingElement = 0) && decide (t.ch0.output = .low)) = true := by decide

/-- Vector W4, and R106 in mode 4. -/
theorem test_completeLoad :
    (answers (.completeLoad .ch0)
      (withChan .early .ch0 { Chan.create .early Config.resetChannel with mode := .mode5 }) fun t =>
      decide (t.ch0.countingState = .waitingForLoadTrigger) && t.ch0.armed) = true ∧
    (answers (.completeLoad .ch0) (withChan .early .ch0 (counting .early .mode4 2 1 .high)) fun t =>
      decide (t.ch0.countingState = .waitingForLoadCycle)) = true := by decide

/-- The step takes the event that a table word stands for. -/
theorem test_step_runs_table_word :
    (match step (State.reset.withFetchWord 8 0x34) with
      | .next t => decide (t.ch0.mode = .mode2) && decide (t.ch0.access = .lsbMsb) && t.inputs.isEmpty
      | _ => false) = true := by decide

/-! Witnesses: for each obligation with hypotheses, operands and a state that meet them, one for each clause. -/

/-- A fresh instance. -/
def fresh (v : Variant) : State := State.create (params v)

/-- A channel programmed for mode `m` and two-byte access, with no count loaded. -/
def programmed (v : Variant) (m : Mode) : Chan :=
  { Chan.create v Config.resetChannel with
    mode := m, access := .lsbMsb, loadMask := loadMaskOf v m, output := powerOnLevel m }

/-- A channel in mode `m` whose next tick is the load cycle of the count `cr`. -/
def loaded (v : Variant) (m : Mode) (cr : Count) : Chan :=
  { counting v m cr 0x0000 (powerOnLevel m) with countingState := .waitingForLoadCycle }

theorem witness_DecodeEncodeRoundTrip :
    Instr.wellFormed .early (.modesetC0LsbM0 true) = true ∧ Instr.wellFormed .early .readbackEarly = true ∧
    Instr.wellFormed .late .readbackLate = true ∧ Instr.wellFormed .late (.writeCtrl 0xFF) = true ∧
    Instr.wellFormed .late (.setGate .ch2 .high) = true := by decide

theorem witness_StepRunsTheDecodedEvent :
    (fresh .early).inputs = [] ∧ ((fresh .early).withFetchWord 8 0x34).inputs = [.control 0x34] ∧
    Instr.wellFormed .early .tick = true ∧ encode .tick = some .tick := by decide

theorem witness_DescribedOperationsComplete :
    Instr.describedOn .early .readbackEarly = true ∧ Instr.describedOn .late .readbackEarly = false ∧
    Instr.describedOn .late (.writeCtrl 0xBF) = true ∧ Instr.describedOn .late (.writeCtrl 0xC0) = false ∧
    Instr.describedOn .early (.writeCtrl 0xFF) = true ∧ Instr.describedOn .early .readCtrl = false := by decide

theorem witness_UndescribedOperationsAreRefused : (fresh .late).params.variant = .late := rfl

theorem witness_ReadbackIsNoOpOnEarly : (fresh .early).params.variant = .early := rfl

/-- The two states differ in channel 1. -/
theorem witness_ChannelsNeverObserveOneAnother :
    let s₁ := fresh .early
    let s₂ := withChan .early .ch1 (counting .early .mode2 3 2 .high)
    s₁.params = s₂.params ∧ s₁.chan .ch0 = s₂.chan .ch0 ∧ s₁ ≠ s₂ ∧
    (∃ t, exec .tick s₁ = .next t) ∧ ∃ t, exec .tick s₂ = .next t :=
  ⟨rfl, rfl, by decide, ⟨_, rfl⟩, ⟨_, rfl⟩⟩

theorem witness_EventsWriteOnlyTheirFields :
    ((Instr.modesetC0LsbM3 true).atDecoder .late).modesetOperands = some (.ch0, .lsb, .f3, true) ∧
    ((Instr.writeCtrl 0x17).atDecoder .late).modesetOperands = some (.ch0, .lsb, .f3, true) ∧
    (Instr.writeCtrl 0x8F).atDecoder .late = latchInstr .ch2 ∧
    Instr.writeData1 0x00 = writeInstr 0x00 .ch1 ∧ Instr.readData2 = readInstr .ch2 ∧
    (∃ t, exec (.modesetC0LsbM3 true) (fresh .late) = .next t) ∧ (∃ t, exec (.writeCtrl 0x17) (fresh .late) = .next t) ∧
    (∃ t, exec (.writeCtrl 0x8F) (fresh .late) = .next t) ∧ (∃ t, exec (.writeData1 0x00) (fresh .late) = .next t) ∧
    (∃ t, exec .readData2 (fresh .late) = .next t) ∧ (∃ t, exec (.setGate .ch1 .low) (fresh .late) = .next t) ∧
    (∃ t, exec (.chTick .ch1) (fresh .late) = .next t) ∧ (∃ t, exec .tick (fresh .late) = .next t) ∧
    ∃ t, exec .reset (fresh .late) = .next t :=
  ⟨rfl, rfl, rfl, rfl, rfl, ⟨_, rfl⟩, ⟨_, rfl⟩, ⟨_, rfl⟩, ⟨_, rfl⟩, ⟨_, rfl⟩, ⟨_, rfl⟩, ⟨_, rfl⟩, ⟨_, rfl⟩, ⟨_, rfl⟩⟩

/-- The lowest and the highest mode set words, each as an event of its own and as a write of port 3. -/
theorem witness_ModeSetEffect :
    ((Instr.modesetC0LsbM0 false).atDecoder .early).modesetOperands = some (.ch0, .lsb, .f0, false) ∧
    ((Instr.writeCtrl 0x10).atDecoder .early).modesetOperands = some (.ch0, .lsb, .f0, false) ∧
    ((Instr.modesetC2LsbmsbM7 true).atDecoder .late).modesetOperands = some (.ch2, .lsbMsb, .f7, true) ∧
    ((Instr.writeCtrl 0xBF).atDecoder .late).modesetOperands = some (.ch2, .lsbMsb, .f7, true) := by decide

/-- Mode 3 on `Late`, mode 3 on `Early` and mode 0. -/
theorem witness_ModeSetMaskAndLevel :
    ((Instr.modesetC1MsbM3 false).atDecoder .late).modesetOperands = some (.ch1, .msb, .f3, false) ∧
    (answers (.modesetC1MsbM3 false) (fresh .late) fun t => decide (t.ch1.mode = .mode3)) = true ∧
    (answers (.modesetC1MsbM3 false) (fresh .early) fun t =>
      decide (t.ch1.mode = .mode3) && decide (t.params.variant = .early)) = true ∧
    (answers (.modesetC1MsbM0 false) (fresh .late) fun t => decide (t.ch1.mode = .mode0)) = true := by decide

theorem witness_ModeBitsSixAndSevenStoreModesTwoAndThree :
    ((Instr.modesetC1LsbM6 false).atDecoder .early).modesetOperands = some (.ch1, .lsb, .f6, false) ∧
    ((Instr.writeCtrl 0x5F).atDecoder .early).modesetOperands = some (.ch1, .lsb, .f7, true) := by decide

/-- The two channels differ before the mode set. -/
theorem witness_ModeSetForgetsHistory :
    let s₁ := fresh .early
    let s₂ := withChan .early .ch0 { counting .early .mode5 3 2 .low with countLatch := 9, latched := true }
    s₁.params.variant = s₂.params.variant ∧ (s₁.chan .ch0).gate = (s₂.chan .ch0).gate ∧
    ((Instr.modesetC0LsbM2 false).atDecoder s₁.params.variant).modesetOperands = some (.ch0, .lsb, .f2, false) ∧
    s₁ ≠ s₂ ∧ (∃ t, exec (.modesetC0LsbM2 false) s₁ = .next t) ∧ ∃ t, exec (.modesetC0LsbM2 false) s₂ = .next t :=
  ⟨rfl, rfl, rfl, by decide, ⟨_, rfl⟩, ⟨_, rfl⟩⟩

/-- Two different states that no event tells apart. -/
theorem witness_StaleSnapshotIsUnobservable :
    let s₂ := withChan .early .ch0 { Chan.create .early Config.resetChannel with countLatch := 0xBEEF }
    (fresh .early).SameVisible s₂ ∧ fresh .early ≠ s₂ :=
  ⟨⟨rfl, rfl, rfl, fun c => by cases c <;> decide⟩, by decide⟩

theorem witness_ModeSetAndLatchAreIdempotent :
    ((Instr.writeCtrl 0x30).atDecoder .early).modesetOperands.isSome = true ∧
    Instr.latch0.atDecoder .early = latchInstr .ch0 := by decide

/-- A channel with a snapshot and one without, and the three spellings of the command. -/
theorem witness_LatchTakesTheFirstSnapshotOnly :
    (Instr.writeCtrl 0x0F).atDecoder .early = latchInstr .ch0 ∧ Instr.latch0.atDecoder .early = latchInstr .ch0 ∧
    ((fresh .early).chan .ch0).latched = false ∧
    ((withChan .early .ch0 { counting .early .mode0 1 1 .low with latched := true }).chan .ch0).latched = true := by
  decide

/-- The four clauses. -/
theorem witness_ReadDataReturnsTheByteInSequence :
    (counting .early .mode0 1 1 .low).access = .lsb ∧
    ({ counting .early .mode0 1 1 .low with access := .msb } : Chan).access = .msb ∧
    (programmed .early .mode0).access = .lsbMsb ∧ (programmed .early .mode0).readState = .firstByte ∧
    ({ programmed .early .mode0 with readState := .secondByte } : Chan).readState = .secondByte := by decide

theorem witness_LatchedReadIsUntornByTicks :
    let s := withChan .early .ch0 { counting .early .mode0 0xBEEF 0xBEEF .low with access := .lsbMsb }
    (s.chan .ch0).access = .lsbMsb ∧ (s.chan .ch0).readState = .firstByte ∧ (s.chan .ch0).latched = false := by decide

theorem witness_SnapshotStaysUntilReadOrReprogrammed :
    let s := withChan .early .ch0 { counting .early .mode0 3 2 .low with latched := true, countLatch := 3 }
    (s.chan .ch0).latched = true ∧ ∃ t, exec .tick s = .next t :=
  ⟨rfl, ⟨_, rfl⟩⟩

theorem witness_SingleByteWriteCompletesTheLoad :
    ((fresh .early).chan .ch0).access = .lsb ∧
    ((withChan .early .ch2 { counting .early .mode2 3 2 .high with access := .msb }).chan .ch2).access = .msb := by decide

/-- The three clauses: a first byte in mode 2 and in mode 0, and a second byte. -/
theorem witness_TwoByteWriteWaitsForTheSecondByte :
    (programmed .early .mode2).access = .lsbMsb ∧ (programmed .early .mode2).loadState = .firstByte ∧
    (programmed .early .mode0).mode = .mode0 ∧ (programmed .early .mode0).loadState = .firstByte ∧
    ({ programmed .early .mode0 with loadState := .secondByte } : Chan).loadState = .secondByte := by decide

theorem witness_FirstLoadArmsTheChannel :
    (programmed .early .mode1).loadPhase = .initial ∧ (programmed .early .mode1).mode = .mode1 ∧
    (programmed .early .mode5).mode = .mode5 ∧ (programmed .early .mode4).loadPhase = .initial ∧
    (programmed .early .mode4).mode = .mode4 := by decide

/-- Modes 0 and 4 in LSB-only and in MSB-only access, and mode 3. -/
theorem witness_SubsequentLoadDisturbsOnlyModesZeroAndFour :
    (counting .early .mode0 3 2 .low).loadPhase = .subsequent ∧ (counting .early .mode0 3 2 .low).access = .lsb ∧
    (let ch := { counting .early .mode4 0x0300 2 .high with access := .msb }
     ch.loadPhase = .subsequent ∧ ch.access ≠ .lsbMsb ∧ ch.access ≠ .lsb ∧ ch.mode = .mode4) ∧
    (counting .late .mode3 4 2 .high).loadPhase = .subsequent ∧
    (counting .late .mode3 4 2 .high).access ≠ .lsbMsb := by decide

theorem witness_CompleteLoadOfASubsequentLoad :
    (counting .early .mode0 3 2 .low).loadPhase = .subsequent ∧
    (counting .early .mode5 3 2 .high).loadPhase = .subsequent := by decide

theorem witness_ModeZeroIsFrozenBetweenTheTwoBytes :
    let s := withChan .early .ch0 { counting .early .mode0 3 2 .low with access := .lsbMsb }
    (s.chan .ch0).access = .lsbMsb ∧ (s.chan .ch0).loadState = .firstByte ∧ (s.chan .ch0).mode = .mode0 := by decide

/-- A rising edge in modes 1 and 4, a falling edge in modes 3 and 0, and a channel without a count. -/
theorem witness_SetGateStoresLevelAndActsOnEdges :
    (let ch := { counting .early .mode1 3 2 .high with gate := .low }
     ch.gate = .low ∧ ch.countingState ≠ .waitingForReload ∧ ch.mode = .mode1) ∧
    (let ch := { counting .early .mode4 3 2 .high with gate := .low }
     ch.gate = .low ∧ ch.countingState ≠ .waitingForReload ∧ ch.mode = .mode4) ∧
    (counting .early .mode3 4 2 .high).gate = .high ∧ (counting .early .mode3 4 2 .high).mode = .mode3 ∧
    (counting .early .mode3 4 2 .high).countingState ≠ .waitingForReload ∧
    (counting .early .mode0 4 2 .low).gate = .high ∧ (counting .early .mode0 4 2 .low).mode = .mode0 ∧
    (programmed .early .mode3).countingState = .waitingForReload := by decide

theorem witness_GateChangesWithoutSideEffect :
    ((fresh .early).chan .ch0).gate = .high ∧ (programmed .early .mode2).countingState = .waitingForReload ∧
    (counting .early .mode0 3 2 .low).mode = .mode0 ∧ (counting .early .mode4 3 2 .low).mode = .mode4 := by decide

/-- Mode 2 in the one tick of low output, and mode 3. -/
theorem witness_GatePulseRestartsPeriodicModes :
    let ch := { counting .early .mode2 3 1 .low with countingState := .waitingForLoadCycle }
    ch.mode = .mode2 ∧ ch.gate = .high ∧ ch.countingState ≠ .waitingForReload ∧
    (counting .late .mode3 4 2 .low).mode = .mode3 ∧ (counting .late .mode3 4 2 .low).gate = .high := by decide

/-- A state for each of the five clauses. -/
theorem witness_ChTickSelectsOneInternalOperation :
    let w := { counting .early .mode1 4 0 .high with countingState := .waitingForLoadTrigger }
    (loaded .early .mode2 4).countingState = .waitingForLoadCycle ∧
    (w.countingState = .waitingForLoadTrigger ∧ w.armed = true ∧ w.ceUndefined = false) ∧
    ¬ ({ w with ceUndefined := true }.armed = true ∧ { w with ceUndefined := true }.ceUndefined = false) ∧
    (counting .early .mode0 3 2 .low).countingState = .counting ∧
    (programmed .early .mode0).countingState = .waitingForReload := by decide

theorem witness_UndefinedWindowLastsUntilTheTrigger :
    let ch := { counting .early .mode5 4 0 .high with countingState := .waitingForLoadTrigger, gate := .low }
    (ch.mode = .mode1 ∨ ch.mode = .mode5) ∧ ch.countingState = .waitingForLoadTrigger ∧ ch.armed = true ∧
    ch.ceUndefined = false ∧ ch.gate = .low := by decide

/-- The clauses of the rules of modes 0, 1, 2, 4 and 5: the gate LOW, a counter that becomes the terminal value and one
that does not, and mode 1 at zero without `armed`. -/
theorem witness_counting_rules :
    ({ counting .early .mode0 3 1 .low with gate := .low } : Chan).gate = .low ∧
    (counting .early .mode0 3 1 .low).gate = .high ∧
    dec (counting .early .mode0 3 1 .low).countingElement false = 0 ∧
    dec (counting .early .mode0 3 0 .low).countingElement false ≠ 0 ∧
    (counting .early .mode1 3 1 .low).armed = true ∧
    ({ counting .early .mode1 3 1 .low with armed := false } : Chan).armed = false ∧
    dec (counting .early .mode2 3 2 .high).countingElement false = 1 ∧
    dec (counting .early .mode2 3 1 .high).countingElement false ≠ 1 := by decide

/-- The tick that makes the counter one, and one that does not. -/
theorem witness_RateGeneratorReloadsAfterOneLowTick :
    let ch := counting .early .mode2 3 2 .high
    ch.mode = .mode2 ∧ ch.countingState = .counting ∧ ch.gate = .high ∧ dec ch.countingElement ch.bcd = 1 ∧
    dec (counting .early .mode2 3 3 .high).countingElement false ≠ 1 := by decide

/-- The parities and output levels that the clauses of mode 3 distinguish. -/
theorem witness_ModeThreeStepsByParityAndVariant :
    (counting .early .mode3 4 2 .high).countRegister.getLsbD 0 = false ∧
    (counting .early .mode3 5 5 .low).countRegister.getLsbD 0 = true ∧
    (withChan .early .ch0 (counting .early .mode3 5 5 .low)).params.variant = .early ∧
    (withChan .late .ch0 (counting .late .mode3 5 0 .high)).params.variant = .late ∧
    (counting .late .mode3 5 0 .high).output = .high ∧ (counting .late .mode3 5 0 .high).countingElement = 0 ∧
    (counting .late .mode3 5 4 .high).countingElement ≠ 0 ∧ (counting .late .mode3 5 4 .low).output = .low := by decide

theorem witness_SoftwareTriggeredStrobe :
    let ch := counting .early .mode4 2 1 .high
    ch.mode = .mode4 ∧ ch.countingState = .counting ∧ ch.gate = .high ∧ ch.access ≠ .lsbMsb ∧
    ({ ch with gate := .low } : Chan).gate = .low ∧
    ({ programmed .early .mode4 with loadState := .secondByte } : Chan).loadState = .secondByte := by decide

/-- The lowest and the highest decimal value. -/
theorem witness_DecrementIsSubtractionOfOne : ValidBcd 0x0000 ∧ ValidBcd 0x9999 ∧ ¬ ValidBcd 0x000A := by decide

theorem witness_DecimalCounterStaysDecimal :
    let ch := { counting .early .mode2 0x0010 0x0009 .high with bcd := true }
    ch.Inv (params .early).variant ∧ ch.bcd = true ∧ ValidBcd ch.countRegister ∧ ValidBcd ch.countingElement ∧
    ValidBcd (params .early).placeholder :=
  ⟨by decide, rfl, by decide, by decide, by decide⟩

/-- The common hypotheses of the statements on runs: the invariant, a load cycle to come, and the count `n`. -/
def startsRun (v : Variant) (ch : Chan) (n : Nat) : Bool :=
  decide (ch.Inv (params v).variant) && decide (ch.countingState = .waitingForLoadCycle) &&
    decide (ValidCount ch.bcd ch.countRegister) && decide (loadedCount ch.bcd ch.countRegister = n)

/-- The same channel in BCD. -/
def decimal (ch : Chan) : Chan := { ch with bcd := true }

/-- The longest binary count in mode 0, which is written 0, and the shortest decimal one in mode 1. -/
theorem witness_OutputRisesAfterCountTicks :
    startsRun .early (loaded .early .mode0 0x0000) 65536 = true ∧ (loaded .early .mode0 0x0000).mode = .mode0 ∧
    (loaded .early .mode0 0x0000).gate = .high ∧
    startsRun .late (decimal (loaded .late .mode1 0x0001)) 1 = true ∧
    (decimal (loaded .late .mode1 0x0001)).mode = .mode1 := by decide

theorem witness_RateGeneratorPeriod :
    startsRun .early (loaded .early .mode2 0x0002) 2 = true ∧ (loaded .early .mode2 0x0002).mode = .mode2 ∧
    (loaded .early .mode2 0x0002).gate = .high ∧
    startsRun .early (decimal (loaded .early .mode2 0x0000)) 10000 = true := by decide

theorem witness_SquareWaveEvenHalfPeriod :
    startsRun .late (loaded .late .mode3 0x0002) 2 = true ∧ (loaded .late .mode3 0x0002).mode = .mode3 ∧
    (loaded .late .mode3 0x0002).gate = .high ∧ (loaded .late .mode3 0x0002).countRegister.getLsbD 0 = false ∧
    startsRun .early (decimal (loaded .early .mode3 0x0000)) 10000 = true ∧
    (decimal (loaded .early .mode3 0x0000)).countRegister.getLsbD 0 = false := by decide

theorem witness_SquareWaveOddPeriodOnBothVariants :
    startsRun .late (loaded .late .mode3 0xFFFF) 65535 = true ∧ (loaded .late .mode3 0xFFFF).mode = .mode3 ∧
    (loaded .late .mode3 0xFFFF).gate = .high ∧ (loaded .late .mode3 0xFFFF).countRegister.getLsbD 0 = true ∧
    startsRun .early (decimal (loaded .early .mode3 0x0003)) 3 = true ∧
    (decimal (loaded .early .mode3 0x0003)).countRegister.getLsbD 0 = true := by decide

/-- Mode 4, and mode 5 with the gate LOW. -/
theorem witness_StrobeComesOnceCountRunsOut :
    startsRun .early (loaded .early .mode4 0x0001) 1 = true ∧ (loaded .early .mode4 0x0001).mode = .mode4 ∧
    (loaded .early .mode4 0x0001).gate = .high ∧
    startsRun .late { decimal (loaded .late .mode5 0x9999) with gate := .low } 9999 = true ∧
    (decimal (loaded .late .mode5 0x9999)).mode = .mode5 := by decide

theorem witness_OddCounterUnderEvenCountNeverToggles :
    let ch := counting .early .mode3 4 5 .high
    ch.mode = .mode3 ∧ ch.countingState = .counting ∧ ch.countRegister.getLsbD 0 = false ∧
    ch.countingElement.getLsbD 0 = true := by decide

theorem witness_StepKeepsInvariant :
    let s := (withChan .late .ch2 (counting .late .mode3 5 4 .low)).withFetchWord 8 0x34
    s.Inv ∧ ∃ t, step s = .next t :=
  ⟨⟨by decide, by decide, by decide⟩, ⟨_, rfl⟩⟩

/-- The operation is well-formed, the state keeps the invariant, and channel 0 goes to `cs`, another state than it was
in. -/
def moves (i : Instr) (ch : Chan) (cs : CountingState) : Bool :=
  let s := withChan .early .ch0 ch
  decide (s.ch0.Inv .early) && decide (s.ch1.Inv .early) && decide (s.ch2.Inv .early) && i.wellFormed .early && decide (ch.countingState ≠ cs) &&
    answers i s fun t => decide (t.ch0.countingState = cs)

/-- A transition for each row of the table. -/
theorem witness_CountingStateTransitionsAreTheTable :
    moves .reset (counting .early .mode2 3 2 .high) .waitingForReload = true ∧
    moves (.writeData0 5) { counting .early .mode0 3 2 .low with access := .lsbMsb } .waitingForReload = true ∧
    moves (.writeData0 5) { programmed .early .mode5 with loadState := .secondByte } .waitingForLoadTrigger = true ∧
    moves (.writeData0 5) { programmed .early .mode3 with loadState := .secondByte } .waitingForLoadCycle = true ∧
    moves (.writeData0 5) (counting .early .mode4 3 2 .high) .waitingForLoadCycle = true ∧
    moves (.setGate .ch0 .high) { counting .early .mode1 3 2 .high with gate := .low } .waitingForLoadCycle = true ∧
    moves (.setGate .ch0 .low) (counting .early .mode3 4 2 .high) .waitingForGate = true ∧
    moves .tick (loaded .early .mode0 3) .counting = true ∧
    moves (.chTick .ch0) (counting .early .mode2 3 2 .high) .waitingForLoadCycle = true := by decide

end Sys2Proof.Tests
end

section
/-!
SUPPORT. The fields the decoder reads from a control word that was put together from its fields (R60 to R65).
-/

namespace Sys2Proof.Machine

/-- The figure of R60, bit by bit: bit 0 is `bcd`, bits 3:1 are `mode`, bits 5:4 `access`, bits 7:6 `channel`. -/
theorem getLsbD_controlWord (cc aa : BitVec 2) (mmm : BitVec 3) (d : BitVec 1) (k : Nat) :
    (controlWord cc aa mmm d).getLsbD k =
      if k < 1 then d.getLsbD k
      else if k < 4 then mmm.getLsbD (k - 1)
      else if k < 6 then aa.getLsbD (k - 4)
      else cc.getLsbD (k - 6) := by
  have hmode : k - 1 < 3 ↔ k < 4 := by omega
  have haccess : k - 4 < 2 ↔ k < 6 := by omega
  have hbcd : (controlWord cc aa mmm d).getLsbD k =
      if k < 1 then d.getLsbD k else (cc ++ aa ++ mmm).getLsbD (k - 1) := BitVec.getLsbD_append
  rw [hbcd, BitVec.getLsbD_append, BitVec.getLsbD_append]
  simp only [Nat.sub_sub, Nat.reduceAdd, hmode, haccess]

/-! What the decoder reads: each field depends on its own bits only, so the other three are free. -/

@[simp] theorem channelField_controlWord (c : Channel) (aa : BitVec 2) (mmm : BitVec 3) (d : BitVec 1) :
    channelField (controlWord (channelBits c) aa mmm d) = some c := by
  simp only [channelField, getLsbD_controlWord]
  cases c <;> rfl

@[simp] theorem accessField_controlWord (cc : BitVec 2) (a : Access) (mmm : BitVec 3) (d : BitVec 1) :
    accessField (controlWord cc (accessBits a) mmm d) = some a := by
  simp only [accessField, getLsbD_controlWord]
  cases a <;> rfl

@[simp] theorem modeField_controlWord (cc aa : BitVec 2) (f : ModeField) (d : BitVec 1) :
    modeField (controlWord cc aa (modeBits f) d) = f := by
  simp only [modeField, getLsbD_controlWord]
  cases f <;> rfl

@[simp] theorem bcdField_controlWord (cc aa : BitVec 2) (mmm : BitVec 3) (d : BitVec 1) :
    bcdField (controlWord cc aa mmm d) = (d == 1) := by
  have hbit : ∀ d : BitVec 1, d.getLsbD 0 = (d == 1) := by decide
  rw [bcdField, getLsbD_controlWord, if_pos Nat.zero_lt_one, hbit]

/-- The MODESET row of four operands carries exactly these operands (R73, R82). -/
@[simp] theorem modesetOperands_modesetInstr (c : Channel) (a : Access) (f : ModeField) (d : Bool) :
    (modesetInstr c a f d).modesetOperands = some (c, a, f, d) := by
  cases c <;> cases a <;> cases f <;> rfl

/-- A word whose channel field names a channel and whose access field names an access mode is a mode set: the last case
of the decode order (R65). -/
theorem decodeControl_modesetWord (v : Variant) (c : Channel) (a : Access) (f : ModeField) (d : BitVec 1) :
    decodeControl v (controlWord (channelBits c) (accessBits a) (modeBits f) d) = modesetInstr c a f (d == 1) := by
  simp only [decodeControl, channelField_controlWord, accessField_controlWord, modeField_controlWord,
    bcdField_controlWord]

/-- Settles O3: the word decodes to the MODESET row of its four fields, whose operands are these fields. -/
theorem modeSetWordHasFieldsInPlace : Obligations.ModeSetWordHasFieldsInPlace := by
  intro v c a f d
  rw [decodeControl_modesetWord, modesetOperands_modesetInstr]

end Sys2Proof.Machine
end

section
/-!
SUPPORT. Control words at the machine: what the decoder makes of the words that are no mode set, one meaning for a
control word however it arrives, and the effect of the three commands (R80 to R87).
-/

namespace Sys2Proof.Machine

/-! The two words of R65 whose remaining bits are ignored. -/

/-- Channel field 3 names no channel (R61). -/
@[simp] theorem channelField_readbackWord (aa : BitVec 2) (mmm : BitVec 3) (d : BitVec 1) :
    channelField (controlWord 3 aa mmm d) = none := by
  simp only [channelField, getLsbD_controlWord]
  rfl

/-- Access field 0 names no access mode (R62). -/
@[simp] theorem accessField_latchWord (cc : BitVec 2) (mmm : BitVec 3) (d : BitVec 1) :
    accessField (controlWord cc 0 mmm d) = none := by
  simp only [accessField, getLsbD_controlWord]
  rfl

/-- Channel field 3 is the first case of the decode order (R65). -/
theorem decodeControl_readbackWord (v : Variant) (aa : BitVec 2) (mmm : BitVec 3) (d : BitVec 1) :
    decodeControl v (controlWord 3 aa mmm d) = readbackInstr v := by
  simp only [decodeControl, channelField_readbackWord]

/-- Access field 0 is the second case of the decode order (R65). -/
theorem decodeControl_latchWord (v : Variant) (c : Channel) (mmm : BitVec 3) (d : BitVec 1) :
    decodeControl v (controlWord (channelBits c) 0 mmm d) = latchInstr c := by
  simp only [decodeControl, channelField_controlWord, accessField_latchWord]

/-! A control word means the same as an event of its own and as a bus write of port 3 (R43, R80). -/

theorem exec_writeCtrl (b : Byte) (s : State) : exec (.writeCtrl b) s = s.writeControl b := rfl

theorem exec_readbackEarly (s : State) : exec .readbackEarly s = s.readbackCommand := rfl

theorem exec_readbackInstr (s : State) : exec (readbackInstr s.params.variant) s = s.readbackCommand := by
  cases hv : s.params.variant with
  | early => exact exec_readbackEarly s
  | late =>
    rw [State.readbackCommand, hv]
    rfl

theorem exec_decodeControl (b : Byte) (s : State) :
    exec (decodeControl s.params.variant b) s = s.writeControl b := by
  unfold decodeControl State.writeControl
  cases channelField b with
  | none => exact exec_readbackInstr s
  | some c =>
    cases accessField b with
    | none => exact exec_latchInstr c s
    | some a => exact exec_modeset s (modesetOperands_modesetInstr c a _ _)

/-- An operation does what the mode decoder sees in it. -/
theorem exec_atDecoder (i : Instr) (s : State) : exec (i.atDecoder s.params.variant) s = exec i s := by
  cases i
  case writeCtrl b => exact exec_decodeControl b s
  all_goals rfl

/-- A mode set, as a MODESET row or as a byte written to port 3, runs the command of its operands. -/
theorem exec_eq_modeSetCommand {i : Instr} {s : State} {c : Channel} {a : Access} {f : ModeField} {d : Bool}
    (h : (i.atDecoder s.params.variant).modesetOperands = some (c, a, f, d)) :
    exec i s = .next (s.modeSetCommand c a f d) := by
  rw [← exec_atDecoder, exec_modeset s h]

/-- A latch request, as a LATCH row, as a byte written to port 3 or as the INTERNAL row, runs the command of its
channel. -/
theorem exec_eq_latchCommand {i : Instr} {s : State} {c : Channel}
    (h : i.atDecoder s.params.variant = latchInstr c ∨ i = .latchOp c) :
    exec i s = .next (s.latchCommand c) := by
  rcases h with hword | rfl
  · rw [← exec_atDecoder, hword, exec_latchInstr]
  · rfl

/-! What an update of one channel leaves unchanged (R52). -/

theorem State.update_sameBut (s : State) (c : Channel) (f : Chan → Chan) : s.SameBut c (s.update c f) :=
  ⟨fun _ h => s.chan_update_other f h, s.update_params c f, s.update_inputs c f, s.update_dataOut c f⟩

theorem State.update_eq_self {s : State} {c : Channel} {f : Chan → Chan} (h : f (s.chan c) = s.chan c) :
    s.update c f = s := by
  rw [State.update, h, State.setChan_chan]

/-! The read-back command on `Early` (R87). -/

theorem State.readbackCommand_early {s : State} (hv : s.params.variant = .early) : s.readbackCommand = .next s := by
  simp only [State.readbackCommand, hv]

theorem State.writeControl_readbackWord (s : State) (aa : BitVec 2) (mmm : BitVec 3) (d : BitVec 1) :
    s.writeControl (controlWord 3 aa mmm d) = s.readbackCommand := by
  simp only [State.writeControl, channelField_readbackWord]

/-- Settles O9: the row, the word at the decoder and the word written to port 3 all run the read-back command. -/
theorem readbackIsNoOpOnEarly : Obligations.ReadbackIsNoOpOnEarly := by
  intro s hv
  have hnoop := State.readbackCommand_early hv
  refine ⟨?_, fun aa mmm d => ⟨?_, ?_⟩⟩
  · rw [exec_readbackEarly, hnoop]
  · rw [decodeControl_readbackWord, exec_readbackInstr, hnoop]
  · rw [exec_writeCtrl, State.writeControl_readbackWord, hnoop]

/-! The mode set (R84, R85). -/

/-- The load mask drops bit 0 for a square wave on `Late` only (R84). -/
theorem loadMaskOf_eq (v : Variant) (m : Mode) :
    loadMaskOf v m = if m = .mode3 ∧ v = .late then 0xFFFE else 0xFFFF := by
  cases v <;> cases m <;> rfl

/-- Mode 0 alone starts LOW (R85). -/
theorem powerOnLevel_eq (m : Mode) : powerOnLevel m = if m = .mode0 then .low else .high := by
  cases m <;> rfl

theorem State.modeSetCommand_chan (s : State) (c : Channel) (a : Access) (f : ModeField) (d : Bool) :
    (s.modeSetCommand c a f d).chan c = (s.chan c).modeSet s.params.variant a (mapMode f) d :=
  s.chan_update_same c _

/-- Settles O14: the mode set stores the load mask and the level that its mode has in R84 and R85. -/
theorem modeSetMaskAndLevel : Obligations.ModeSetMaskAndLevel := by
  intro i s c a f d h
  refine ⟨s.modeSetCommand c a f d, exec_eq_modeSetCommand h, ?_⟩
  rw [State.modeSetCommand_chan]
  simp only [Chan.modeSet_mode, Chan.modeSet_loadMask, Chan.modeSet_output, loadMaskOf_eq, powerOnLevel_eq]
  exact ⟨fun h => if_pos h, fun h => if_neg h, fun h => if_pos h, fun h => if_neg h⟩

/-! The latch (R81, R121). -/

theorem Chan.latch_of_latched {ch : Chan} (h : ch.latched = true) : ch.latch = ch :=
  if_pos h

theorem Chan.latch_of_not_latched {ch : Chan} (h : ch.latched = false) :
    ch.latch = { ch with countLatch := ch.countingElement, latched := true } := by
  rw [Chan.latch_eq, h]
  rfl

/-- A second latch request before the read leaves the whole state as it was. -/
theorem State.latchCommand_of_latched {s : State} {c : Channel} (h : (s.chan c).latched = true) :
    s.latchCommand c = s :=
  State.update_eq_self (Chan.latch_of_latched h)

theorem State.latchCommand_chan (s : State) (c : Channel) : (s.latchCommand c).chan c = (s.chan c).latch :=
  s.chan_update_same c _

/-- Settles O19: every form of the request runs the latch on its channel, which keeps a snapshot or takes one. -/
theorem latchTakesTheFirstSnapshotOnly : Obligations.LatchTakesTheFirstSnapshotOnly := by
  intro i s c h
  refine ⟨⟨s.latchCommand c, exec_eq_latchCommand h, s.update_sameBut c Chan.latch,
    State.latchCommand_of_latched, fun hfree => ?_⟩, decodeControl_latchWord s.params.variant c⟩
  rw [State.latchCommand_chan, Chan.latch_of_not_latched hfree]

end Sys2Proof.Machine
end

section
/-!
SUPPORT. The completion of a count load (R104, R105) and the load cycle it asks for (R161, R162).
-/

namespace Sys2Proof.Machine

theorem exec_completeLoad (c : Channel) (s : State) :
    exec (.completeLoad c) s = .next (s.update c Chan.completeLoad) := rfl

theorem Chan.completeLoad_of_initial {ch : Chan} (h : ch.loadPhase = .initial) : ch.completeLoad = ch.firstLoad := by
  rw [Chan.completeLoad, h]

/-- In modes 1 and 5 a first load waits for the gate (R105). -/
theorem Chan.firstLoad_of_oneShot {ch : Chan} (h : ch.mode = .mode1 ∨ ch.mode = .mode5) :
    ch.firstLoad =
      { ch with armed := true, loadPhase := .subsequent, countingState := .waitingForLoadTrigger } := by
  rw [Chan.firstLoad_eq, if_pos h]

/-- In modes 0, 2, 3 and 4 a first load asks for a load cycle (R105). -/
theorem Chan.firstLoad_of_not_oneShot {ch : Chan} (h : ¬ (ch.mode = .mode1 ∨ ch.mode = .mode5)) :
    ch.firstLoad =
      { ch with armed := true, loadPhase := .subsequent, countingState := .waitingForLoadCycle } := by
  rw [Chan.firstLoad_eq, if_neg h]

/-- A pending load cycle is the first case of the tick, whatever the gate level (R161). -/
theorem Chan.tick_of_waitingForLoadCycle (p : Params) {ch : Chan} (h : ch.countingState = .waitingForLoadCycle) :
    ch.tick p = ch.loadCycle := by
  rw [Chan.tick, h]

theorem State.chTick_chan (s : State) (c : Channel) : (s.chTick c).chan c = (s.chan c).tick s.params :=
  s.chan_update_same c _

/-- Settles O25: load completion in phase `Initial` is the first load, whose case on the mode is that of R105; the tick
that follows finds the load cycle pending. -/
theorem firstLoadArmsTheChannel : Obligations.FirstLoadArmsTheChannel := by
  intro c s hinitial
  have hload : (s.update c Chan.completeLoad).chan c = (s.chan c).firstLoad := by
    rw [State.chan_update_same, Chan.completeLoad_of_initial hinitial]
  refine ⟨s.update c Chan.completeLoad, exec_completeLoad c s, s.update_sameBut c _,
    fun honeShot => ?_, fun hother => ?_⟩
  · rw [hload, Chan.firstLoad_of_oneShot honeShot]
  · rw [Chan.firstLoad_of_not_oneShot hother] at hload
    have htick : ((s.update c Chan.completeLoad).chTick c).chan c =
        ((s.update c Chan.completeLoad).chan c).loadCycle := by
      rw [State.chTick_chan, Chan.tick_of_waitingForLoadCycle]
      rw [hload]
    refine ⟨hload, (s.update c Chan.completeLoad).chTick c, exec_chTick c _, ?_, ?_⟩
    · rw [htick, Chan.loadCycle_countingState]
    · rw [htick, Chan.loadCycle_countingElement, hload]

end Sys2Proof.Machine
end

section
/-!
SUPPORT. The gate (R141 to R145): when SET_GATE is an edge, and what each edge makes of a channel in each mode.
-/

namespace Sys2Proof.Machine

/-! Which of the three a gate change is (R141). -/

/-- Before a count is loaded there is no edge. -/
theorem Chan.setGate_of_waitingForReload {ch : Chan} (g : Level) (h : ch.countingState = .waitingForReload) :
    ch.setGate g = { ch with gate := g } := by
  rcases ch.setGate_cases g with ⟨hstate, _⟩ | ⟨hstate, _⟩ | ⟨_, hset⟩
  · exact absurd h hstate
  · exact absurd h hstate
  · exact hset

theorem Chan.setGate_high_of_low {ch : Chan} (hgate : ch.gate = .low)
    (hstate : ch.countingState ≠ .waitingForReload) :
    ch.setGate .high = Chan.risingEdge { ch with gate := .high } := by
  simpa [hgate, hstate] using ch.setGate_cases .high

theorem Chan.setGate_low_of_high {ch : Chan} (hgate : ch.gate = .high)
    (hstate : ch.countingState ≠ .waitingForReload) :
    ch.setGate .low = Chan.fallingEdge { ch with gate := .low } := by
  simpa [hgate, hstate] using ch.setGate_cases .low

/-! The edges by mode (R143, R144; mode 4 of the falling edge: R145). -/

/-- In modes 1, 2, 3 and 5 a rising edge asks for a load cycle. -/
theorem Chan.risingEdge_of_retriggered {ch : Chan} (h : ¬ (ch.mode = .mode0 ∨ ch.mode = .mode4)) :
    ch.risingEdge = { ch with countingState := .waitingForLoadCycle } := by
  rw [Chan.risingEdge_eq, if_neg h]

theorem Chan.risingEdge_of_not_retriggered {ch : Chan} (h : ch.mode = .mode0 ∨ ch.mode = .mode4) :
    ch.risingEdge = ch := by
  rw [Chan.risingEdge_eq, if_pos h]

/-- In modes 2 and 3 a falling edge stops the channel with its output HIGH. -/
theorem Chan.fallingEdge_of_periodic {ch : Chan} (h : ch.mode = .mode2 ∨ ch.mode = .mode3) :
    ch.fallingEdge = { ch with countingState := .waitingForGate, output := .high } := by
  rw [Chan.fallingEdge_eq, if_pos h, if_pos h]

theorem Chan.fallingEdge_of_not_periodic {ch : Chan} (h : ¬ (ch.mode = .mode2 ∨ ch.mode = .mode3)) :
    ch.fallingEdge = ch := by
  rw [Chan.fallingEdge_eq, if_neg h, if_neg h]

/-- Settles O29: SET_GATE updates its channel only; there it is a rising edge, a falling edge or no more than the new
level, and each edge has its case on the mode. -/
theorem setGateStoresLevelAndActsOnEdges : Obligations.SetGateStoresLevelAndActsOnEdges := by
  intro c g s
  refine ⟨s.update c (Chan.setGate g), exec_setGate c g s, s.update_sameBut c _, ?_⟩
  rw [State.chan_update_same]
  refine ⟨?retriggered, ?periodic, ?notRetriggered, ?notPeriodic, Chan.setGate_of_waitingForReload g⟩
  case retriggered =>
    rintro ⟨⟨hgate, rfl, hstate⟩, hmode0, hmode4⟩
    rw [Chan.setGate_high_of_low hgate hstate]
    exact Chan.risingEdge_of_retriggered (not_or.mpr ⟨hmode0, hmode4⟩)
  case periodic =>
    rintro ⟨⟨hgate, rfl, hstate⟩, hmode⟩
    rw [Chan.setGate_low_of_high hgate hstate]
    exact Chan.fallingEdge_of_periodic hmode
  case notRetriggered =>
    rintro ⟨⟨hgate, rfl, hstate⟩, hmode⟩
    rw [Chan.setGate_high_of_low hgate hstate]
    exact Chan.risingEdge_of_not_retriggered hmode
  case notPeriodic =>
    rintro ⟨⟨hgate, rfl, hstate⟩, hmode⟩
    have hnot : ¬ ((s.chan c).mode = .mode2 ∨ (s.chan c).mode = .mode3) := by
      rcases hmode with h | h | h <;> simp [h]
    rw [Chan.setGate_low_of_high hgate hstate]
    exact Chan.fallingEdge_of_not_periodic hnot

end Sys2Proof.Machine
end

section
/-!
SUPPORT. The rate generator (R186, R187): a counting tick of mode 2 with the gate HIGH, and the load cycle it asks for.
-/

namespace Sys2Proof.Machine

/-- A counting channel runs the rule of its mode (R161). -/
theorem Chan.tick_of_counting (p : Params) {ch : Chan} (h : ch.countingState = .counting) :
    ch.tick p = ch.modeRule p.variant := by
  rw [Chan.tick, h]

theorem Chan.modeRule_of_mode2 (v : Variant) {ch : Chan} (h : ch.mode = .mode2) : ch.modeRule v = ch.countMode2 := by
  rw [Chan.modeRule, h]

/-- Above the terminal value the tick of mode 2 is the decrement alone. -/
theorem Chan.countMode2_of_ne_one {ch : Chan} (hgate : ch.gate = .high) (h : dec ch.countingElement ch.bcd ≠ 1) :
    ch.countMode2 = { ch with countingElement := dec ch.countingElement ch.bcd } := by
  rcases ch.countMode2_cases with ⟨hlow, _⟩ | ⟨_, _, hstep⟩ | ⟨_, hone, _⟩
  · exact absurd (hgate.symm.trans hlow) (by decide)
  · exact hstep
  · exact absurd hone h

/-- At the terminal value one the output goes LOW and a load cycle is asked for. -/
theorem Chan.countMode2_of_eq_one {ch : Chan} (hgate : ch.gate = .high) (h : dec ch.countingElement ch.bcd = 1) :
    ch.countMode2 =
      { ch with countingElement := 1, output := .low, countingState := .waitingForLoadCycle } := by
  rcases ch.countMode2_cases with ⟨hlow, _⟩ | ⟨_, hne, _⟩ | ⟨_, _, hpulse⟩
  · exact absurd (hgate.symm.trans hlow) (by decide)
  · exact absurd h hne
  · exact hpulse

/-- In both cases the counter has been decremented. -/
theorem Chan.countMode2_countingElement {ch : Chan} (hgate : ch.gate = .high) :
    ch.countMode2.countingElement = dec ch.countingElement ch.bcd := by
  by_cases h : dec ch.countingElement ch.bcd = 1
  · rw [Chan.countMode2_of_eq_one hgate h, h]
  · rw [Chan.countMode2_of_ne_one hgate h]

/-- The load cycle of mode 2 ends the low pulse (R162). -/
theorem postReloadLevel_mode2 : postReloadLevel .mode2 = .high := rfl

/-- With no bit masked off, the load cycle takes `count_register` itself. -/
theorem Chan.loadCycle_countingElement_of_fullMask {ch : Chan} (h : ch.loadMask = 0xFFFF) :
    ch.loadCycle.countingElement = ch.countRegister := by
  rw [Chan.loadCycle_countingElement, h]
  exact BitVec.and_allOnes

/-- Settles O41: the tick is the counting rule of mode 2. Above one it only decrements; at one it leaves a load cycle
pending, which is what the next tick runs. -/
theorem rateGeneratorReloadsAfterOneLowTick : Obligations.RateGeneratorReloadsAfterOneLowTick := by
  intro c s hmode hcounting hgate
  have hrule : s.tickAll.chan c = (s.chan c).countMode2 := by
    rw [State.tickAll_chan, Chan.tick_of_counting _ hcounting, Chan.modeRule_of_mode2 _ hmode]
  have hdec := Chan.countMode2_countingElement hgate
  refine ⟨s.tickAll, exec_tick s, ?_⟩
  rw [hrule]
  refine ⟨hdec, ?above, ?terminal⟩
  case above =>
    intro hne
    rw [Chan.countMode2_of_ne_one hgate (hdec ▸ hne)]
    exact ⟨rfl, hcounting⟩
  case terminal =>
    intro hone
    have hpulse := Chan.countMode2_of_eq_one hgate (hdec ▸ hone)
    have hload : s.tickAll.tickAll.chan c = (s.chan c).countMode2.loadCycle := by
      rw [State.tickAll_chan, hrule, Chan.tick_of_waitingForLoadCycle]
      rw [hpulse]
    rw [hpulse] at hload ⊢
    refine ⟨rfl, rfl, s.tickAll.tickAll, exec_tick s.tickAll, ?_⟩
    rw [hload]
    refine ⟨?_, Chan.loadCycle_countingState _, Chan.loadCycle_countingElement _,
      Chan.loadCycle_countingElement_of_fullMask⟩
    rw [Chan.loadCycle_output, hmode, postReloadLevel_mode2]

end Sys2Proof.Machine
end

section
/-!
SUPPORT. The rows of the operation table in groups, and the encoder against the decoder (R60 to R73).
-/

namespace Sys2Proof.Machine

/-! The rows (R73). -/

/-- The operations by group, each group with its operands: the case split over the rows that the proofs below use. -/
inductive Row : Instr → Prop where
  | readback (v : Variant) : Row (readbackInstr v)
  | latch (c : Channel) : Row (latchInstr c)
  | modeset (c : Channel) (a : Access) (f : ModeField) (d : Bool) : Row (modesetInstr c a f d)
  | read (c : Channel) : Row (readInstr c)
  | readCtrl : Row .readCtrl
  | write (b : Byte) (c : Channel) : Row (writeInstr b c)
  | writeCtrl (b : Byte) : Row (.writeCtrl b)
  | setGate (c : Channel) (g : Level) : Row (.setGate c g)
  | tick : Row .tick
  | chTick (c : Channel) : Row (.chTick c)
  | reset : Row .reset
  | loadCycle (c : Channel) : Row (.loadCycle c)
  | placeholderLoad (c : Channel) : Row (.placeholderLoad c)
  | countMode (c : Channel) (m : Mode) : Row (countModeInstr c m)
  | completeLoad (c : Channel) : Row (.completeLoad c)
  | latchOp (c : Channel) : Row (.latchOp c)

/-- The operands of a MODESET row say which row it is. -/
theorem eq_modesetInstr_of_operands {i : Instr} {c : Channel} {a : Access} {f : ModeField} {d : Bool}
    (h : i.modesetOperands = some (c, a, f, d)) : i = modesetInstr c a f d := by
  cases i <;> simp only [Instr.modesetOperands, Option.some.injEq, Prod.mk.injEq, reduceCtorEq] at h <;>
    (obtain ⟨rfl, rfl, rfl, rfl⟩ := h; rfl)

theorem Row.of_operands {i : Instr} {c : Channel} {a : Access} {f : ModeField} {d : Bool}
    (h : i.modesetOperands = some (c, a, f, d)) : Row i :=
  eq_modesetInstr_of_operands h ▸ .modeset c a f d

/-- Every operation is in one of the groups. -/
theorem Row.all (i : Instr) : Row i := by
  cases i
  case readbackEarly => exact .readback .early
  case readbackLate => exact .readback .late
  case latch0 => exact .latch .ch0
  case latch1 => exact .latch .ch1
  case latch2 => exact .latch .ch2
  case readData0 => exact .read .ch0
  case readData1 => exact .read .ch1
  case readData2 => exact .read .ch2
  case readCtrl => exact .readCtrl
  case writeData0 b => exact .write b .ch0
  case writeData1 b => exact .write b .ch1
  case writeData2 b => exact .write b .ch2
  case writeCtrl b => exact .writeCtrl b
  case setGate c g => exact .setGate c g
  case tick => exact .tick
  case chTick c => exact .chTick c
  case reset => exact .reset
  case loadCycle c => exact .loadCycle c
  case placeholderLoad c => exact .placeholderLoad c
  case countMode0 c => exact .countMode c .mode0
  case countMode1 c => exact .countMode c .mode1
  case countMode2 c => exact .countMode c .mode2
  case countMode3 c => exact .countMode c .mode3
  case countMode4 c => exact .countMode c .mode4
  case countMode5 c => exact .countMode c .mode5
  case completeLoad c => exact .completeLoad c
  case latchOp c => exact .latchOp c
  all_goals exact .of_operands rfl

/-! The encoder (R71, R73). -/

/-- The word of a MODESET row is its four fields at their places. -/
theorem encode_modesetInstr (c : Channel) (a : Access) (f : ModeField) (d : Bool) :
    encode (modesetInstr c a f d) =
      some (.control (controlWord (channelBits c) (accessBits a) (modeBits f) (BitVec.ofBool d))) := by
  cases c <;> cases a <;> cases f <;> cases d <;> rfl

/-- The word of a LATCH row has zeros in the bits the decoder ignores. -/
theorem encode_latchInstr (c : Channel) :
    encode (latchInstr c) = some (.control (controlWord (channelBits c) 0 0 0)) := by
  cases c <;> rfl

theorem encode_readbackInstr (v : Variant) : encode (readbackInstr v) = some (.control (controlWord 3 0 0 0)) := by
  cases v <;> rfl

theorem modesetInstr_wellFormed (v : Variant) (c : Channel) (a : Access) (f : ModeField) (d : Bool) :
    (modesetInstr c a f d).wellFormed v = true := by
  cases c <;> cases a <;> cases f <;> rfl

theorem latchInstr_wellFormed (v : Variant) (c : Channel) : (latchInstr c).wellFormed v = true := by
  cases c <;> rfl

theorem readbackInstr_wellFormed_iff (v v' : Variant) : (readbackInstr v').wellFormed v = true ↔ v' = v := by
  cases v <;> cases v' <;> decide

theorem countModeInstr_not_deliverable (c : Channel) (m : Mode) : (countModeInstr c m).deliverable = false := by
  cases m <;> rfl

/-- A well-formed operation is an event (R42). -/
theorem deliverable_of_wellFormed {v : Variant} {i : Instr} (h : i.wellFormed v = true) : i.deliverable = true :=
  (Bool.and_eq_true_iff.mp h).1

theorem ofBool_beq_one (d : Bool) : (BitVec.ofBool d == 1) = d := by
  cases d <;> rfl

/-- Settles O1: a control word holds its fields at the places the decoder reads, and every other event has an encoding
that the decoder undoes by computation. -/
theorem decodeEncodeRoundTrip : Obligations.DecodeEncodeRoundTrip := by
  intro v i hwf
  cases Row.all i with
  | readback v' =>
    obtain rfl := (readbackInstr_wellFormed_iff v v').mp hwf
    exact ⟨_, encode_readbackInstr v', decodeControl_readbackWord v' 0 0 0⟩
  | latch c => exact ⟨_, encode_latchInstr c, decodeControl_latchWord v c 0 0⟩
  | modeset c a f d =>
    refine ⟨_, encode_modesetInstr c a f d, ?_⟩
    rw [decode, decodeControl_modesetWord, ofBool_beq_one]
  | read c => cases c <;> exact ⟨_, rfl, rfl⟩
  | readCtrl => exact ⟨_, rfl, rfl⟩
  | write b c => cases c <;> exact ⟨_, rfl, rfl⟩
  | writeCtrl b => exact ⟨_, rfl, rfl⟩
  | setGate c g => exact ⟨_, rfl, rfl⟩
  | tick => exact ⟨_, rfl, rfl⟩
  | chTick c => exact ⟨_, rfl, rfl⟩
  | reset => exact ⟨_, rfl, rfl⟩
  | countMode c m =>
    exact absurd (deliverable_of_wellFormed hwf) (by rw [countModeInstr_not_deliverable]; exact Bool.false_ne_true)
  | loadCycle c | placeholderLoad c | completeLoad c | latchOp c =>
    exact absurd (deliverable_of_wellFormed hwf) Bool.false_ne_true

/-! Every control word (R60, R65). -/

theorem channelBits_or (cc : BitVec 2) : cc = 3 ∨ ∃ c, cc = channelBits c := by
  have h : cc = 0 ∨ cc = 1 ∨ cc = 2 ∨ cc = 3 := by revert cc; decide
  rcases h with h | h | h | h
  · exact .inr ⟨.ch0, h⟩
  · exact .inr ⟨.ch1, h⟩
  · exact .inr ⟨.ch2, h⟩
  · exact .inl h

theorem accessBits_or (aa : BitVec 2) : aa = 0 ∨ ∃ a, aa = accessBits a := by
  have h : aa = 0 ∨ aa = 1 ∨ aa = 2 ∨ aa = 3 := by revert aa; decide
  rcases h with h | h | h | h
  · exact .inl h
  · exact .inr ⟨.lsb, h⟩
  · exact .inr ⟨.msb, h⟩
  · exact .inr ⟨.lsbMsb, h⟩

theorem exists_modeBits (mmm : BitVec 3) : ∃ f, mmm = modeBits f := by
  have h : mmm = 0 ∨ mmm = 1 ∨ mmm = 2 ∨ mmm = 3 ∨ mmm = 4 ∨ mmm = 5 ∨ mmm = 6 ∨ mmm = 7 := by
    revert mmm; decide
  rcases h with h | h | h | h | h | h | h | h
  exacts [⟨.f0, h⟩, ⟨.f1, h⟩, ⟨.f2, h⟩, ⟨.f3, h⟩, ⟨.f4, h⟩, ⟨.f5, h⟩, ⟨.f6, h⟩, ⟨.f7, h⟩]

/-- A word is made of its four fields (R60). -/
theorem exists_controlWord (w : Byte) : ∃ cc aa mmm d, w = controlWord cc aa mmm d := by
  refine ⟨w.extractLsb' 6 2, w.extractLsb' 4 2, w.extractLsb' 1 3, w.extractLsb' 0 1, ?_⟩
  refine BitVec.eq_of_getLsbD_eq fun k hk => ?_
  rw [getLsbD_controlWord]
  interval_cases k <;> simp

/-! Masking a word keeps whole fields (R60, R68). -/

theorem controlWord_and_masks (cc aa : BitVec 2) (mmm : BitVec 3) (d : BitVec 1) :
    controlWord cc aa mmm d &&& 0xC0 = controlWord cc 0 0 0 ∧
    controlWord cc aa mmm d &&& 0x30 = controlWord 0 aa 0 0 ∧
    controlWord cc aa mmm d &&& 0xF0 = controlWord cc aa 0 0 := by
  refine ⟨?_, ?_, ?_⟩ <;>
  · refine BitVec.eq_of_getLsbD_eq fun k hk => ?_
    rw [BitVec.getLsbD_and, getLsbD_controlWord, getLsbD_controlWord]
    interval_cases k <;> simp

theorem channelBits_word_ne (c : Channel) : controlWord (channelBits c) 0 0 0 ≠ 0xC0 := by
  cases c <;> decide

theorem accessBits_word_ne (a : Access) : controlWord 0 (accessBits a) 0 0 ≠ 0 := by
  cases a <;> decide

theorem ofBool_eq_one_beq (d : BitVec 1) : BitVec.ofBool (d == 1) = d := by
  revert d
  decide

/-- Settles O2: a word of each of the three forms of the decode order, against the encoder of its row; the masks keep the
channel field of a read-back word, the channel and access fields of a latch word, and nothing is dropped otherwise. -/
theorem everyControlWordIsRecovered : Obligations.EveryControlWordIsRecovered := by
  intro v w
  obtain ⟨cc, aa, mmm, d, rfl⟩ := exists_controlWord w
  obtain ⟨hchannel, haccess, hlatch⟩ := controlWord_and_masks cc aa mmm d
  rw [hchannel, haccess, hlatch]
  rcases channelBits_or cc with rfl | ⟨c, rfl⟩
  · rw [decodeControl_readbackWord]
    exact ⟨(readbackInstr_wellFormed_iff v v).mpr rfl, encode_readbackInstr v⟩
  rw [if_neg (channelBits_word_ne c)]
  rcases accessBits_or aa with rfl | ⟨a, rfl⟩
  · rw [decodeControl_latchWord]
    exact ⟨latchInstr_wellFormed v c, encode_latchInstr c⟩
  · obtain ⟨f, rfl⟩ := exists_modeBits mmm
    rw [decodeControl_modesetWord, if_neg (accessBits_word_ne a), encode_modesetInstr, ofBool_eq_one_beq]
    exact ⟨modesetInstr_wellFormed v c a f _, rfl⟩

/-- Settles O4: the two ignoring cases of the decode order. -/
theorem readbackAndLatchWordsIgnoreRest : Obligations.ReadbackAndLatchWordsIgnoreRest :=
  fun v c aa mmm d => ⟨decodeControl_readbackWord v aa mmm d, decodeControl_latchWord v c mmm d⟩

/-- Settles O5: the decoder run on each word. -/
theorem sampleControlWordsDecode : Obligations.SampleControlWordsDecode :=
  ⟨rfl, rfl, rfl, rfl, rfl, rfl, rfl, rfl, rfl, rfl, rfl, rfl, rfl, rfl, rfl, rfl⟩

/-! The step (R40, R50). -/

theorem step_of_no_event {s : State} (h : s.inputs = []) : step s = .next s := by
  rw [step, h]

theorem step_of_event {s : State} {e : Input} {rest : List Input} (h : s.inputs = e :: rest) :
    step s = exec (decode s.params.variant e) { s with inputs := rest } := by
  rw [step, h]

/-- Settles O6: the two cases of the event list, and the round trip of O1 for an event that was encoded. -/
theorem stepRunsTheDecodedEvent : Obligations.StepRunsTheDecodedEvent := by
  refine fun s => ⟨step_of_no_event, fun e rest h => step_of_event h, fun i e hwf henc => ?_⟩
  obtain ⟨e', henc', hdec⟩ := decodeEncodeRoundTrip s.params.variant i hwf
  obtain rfl : e' = e := Option.some.inj (henc'.symm.trans henc)
  rw [step_of_event rfl, hdec]

end Sys2Proof.Machine
end

section
/-!
SUPPORT. What one operation does to one channel, said once for all operations (R10, R52): `exec_chan`. The statements on
frames, isolation and invariants are read off from it.
-/

namespace Sys2Proof.Machine

/-- What an operation can do to one channel. `keep` is the part of an operation that addresses another channel or
none. -/
inductive ChanOp where
  | keep
  | modeSet (a : Access) (f : ModeField) (d : Bool)
  | latch
  | read
  | write (b : Byte)
  | setGate (g : Level)
  | tick
  | reset
  | loadCycle
  | placeholderLoad
  | countMode (m : Mode)
  | completeLoad

/-- The counting rule of a mode, whatever mode the channel stores (R170). -/
def Chan.countMode (v : Variant) : Mode → Chan → Chan
  | .mode0 => Chan.countMode0
  | .mode1 => Chan.countMode1
  | .mode2 => Chan.countMode2
  | .mode3 => Chan.countMode3 v
  | .mode4 => Chan.countMode4
  | .mode5 => Chan.countMode5

theorem Chan.modeRule_eq_countMode (v : Variant) (ch : Chan) : ch.modeRule v = ch.countMode v ch.mode := by
  rw [Chan.modeRule]
  cases ch.mode <;> rfl

/-- The effect on channel `c` of a part with parameters `p`. -/
def ChanOp.run (p : Params) (c : Channel) : ChanOp → Chan → Chan
  | .keep => id
  | .modeSet a f d => Chan.modeSet p.variant a (mapMode f) d
  | .latch => Chan.latch
  | .read => Chan.afterRead
  | .write b => Chan.writeByte b
  | .setGate g => Chan.setGate g
  | .tick => Chan.tick p
  | .reset => Chan.resetWith p.variant (p.channel c)
  | .loadCycle => Chan.loadCycle
  | .placeholderLoad => Chan.placeholderLoad p.placeholder
  | .countMode m => Chan.countMode p.variant m
  | .completeLoad => Chan.completeLoad

/-- Operation `i` of a part of variant `v` can have effect `op` on channel `c`. -/
inductive Selects (v : Variant) (c : Channel) : Instr → ChanOp → Prop where
  | keep (i : Instr) : Selects v c i .keep
  | modeSet {i : Instr} {a : Access} {f : ModeField} {d : Bool}
      (h : (i.atDecoder v).modesetOperands = some (c, a, f, d)) : Selects v c i (.modeSet a f d)
  | latch {i : Instr} (h : i.atDecoder v = latchInstr c ∨ i = .latchOp c) : Selects v c i .latch
  | read : Selects v c (readInstr c) .read
  | write (b : Byte) : Selects v c (writeInstr b c) (.write b)
  | setGate (g : Level) : Selects v c (.setGate c g) (.setGate g)
  | tick : Selects v c .tick .tick
  | chTick : Selects v c (.chTick c) .tick
  | reset : Selects v c .reset .reset
  | loadCycle : Selects v c (.loadCycle c) .loadCycle
  | placeholderLoad : Selects v c (.placeholderLoad c) .placeholderLoad
  | countMode (m : Mode) : Selects v c (countModeInstr c m) (.countMode m)
  | completeLoad : Selects v c (.completeLoad c) .completeLoad

/-- Operation `i` runs the effect `op` on channel `c` alone, on every part of variant `v`. -/
def UpdatesOnly (v : Variant) (i : Instr) (c : Channel) (op : ChanOp) : Prop :=
  Selects v c i op ∧ ∀ s : State, s.params.variant = v → exec i s = .next (s.update c (op.run s.params c))

/-! The operations of one channel. -/

theorem updatesOnly_modeSet {v : Variant} {i : Instr} {c : Channel} {a : Access} {f : ModeField} {d : Bool}
    (h : (i.atDecoder v).modesetOperands = some (c, a, f, d)) : UpdatesOnly v i c (.modeSet a f d) :=
  ⟨.modeSet h, fun _ hv => exec_eq_modeSetCommand (hv ▸ h)⟩

theorem updatesOnly_latch {v : Variant} {i : Instr} {c : Channel}
    (h : i.atDecoder v = latchInstr c ∨ i = .latchOp c) : UpdatesOnly v i c .latch :=
  ⟨.latch h, fun _ hv => exec_eq_latchCommand (hv ▸ h)⟩

theorem updatesOnly_countMode (v : Variant) (c : Channel) (m : Mode) :
    UpdatesOnly v (countModeInstr c m) c (.countMode m) := by
  refine ⟨.countMode m, fun s hv => ?_⟩
  subst hv
  cases m <;> rfl

theorem modesetInstr_atDecoder (v : Variant) (c : Channel) (a : Access) (f : ModeField) (d : Bool) :
    (modesetInstr c a f d).atDecoder v = modesetInstr c a f d := by
  cases c <;> cases a <;> cases f <;> rfl

theorem modesetInstr_describedOn (v : Variant) (c : Channel) (a : Access) (f : ModeField) (d : Bool) :
    (modesetInstr c a f d).describedOn v = true := by
  cases c <;> cases a <;> cases f <;> rfl

theorem latchInstr_atDecoder (v : Variant) (c : Channel) : (latchInstr c).atDecoder v = latchInstr c := by
  cases c <;> rfl

/-! Which operation is of which kind. -/

/-- The kinds of operations by their effect on the state: refused, without effect, on one channel, a data read, and the
two that run on all three channels. -/
inductive Kind (v : Variant) : Instr → Prop where
  | refused {i : Instr} (r : Refusal) (hdesc : i.describedOn v = false)
      (hexec : ∀ s : State, s.params.variant = v → exec i s = .refused r) : Kind v i
  | noOp {i : Instr} (hdesc : i.describedOn v = true)
      (hexec : ∀ s : State, s.params.variant = v → exec i s = .next s) : Kind v i
  | one {i : Instr} {c : Channel} {op : ChanOp} (hdesc : i.describedOn v = true)
      (h : UpdatesOnly v i c op) : Kind v i
  | read (c : Channel) : Kind v (readInstr c)
  | tick : Kind v .tick
  | reset : Kind v .reset

/-- The read-back command as a row of its own: it has a meaning on `Early` only, as the row of `Early` (R87, R88). -/
theorem Kind.readback (v v' : Variant) : Kind v (readbackInstr v') := by
  cases v'
  case late => exact .refused .readbackUndescribed rfl fun _ _ => rfl
  case early =>
    cases v
    case early => exact .noOp rfl fun s hv => State.readbackCommand_early hv
    case late =>
      refine .refused .readbackUndescribed rfl fun s hv => ?_
      rw [readbackInstr, exec_readbackEarly, State.readbackCommand, hv]

/-- A control word written to port 3 is of the kind of its row (R80). -/
theorem Kind.writeCtrl (v : Variant) (b : Byte) : Kind v (.writeCtrl b) := by
  have hdec : Instr.atDecoder v (.writeCtrl b) = decodeControl v b := rfl
  cases hc : channelField b with
  | none =>
    have hexec (s : State) : exec (.writeCtrl b) s = s.readbackCommand := by
      simp only [exec_writeCtrl, State.writeControl, hc]
    cases v
    case early =>
      exact .noOp (by simp [Instr.describedOn]) fun s hv => by rw [hexec, State.readbackCommand_early hv]
    case late =>
      refine .refused .readbackUndescribed (by simp [Instr.describedOn, hc]) fun s hv => ?_
      rw [hexec, State.readbackCommand, hv]
  | some c =>
    have hdesc : (Instr.writeCtrl b).describedOn v = true := by simp [Instr.describedOn, hc]
    cases ha : accessField b with
    | none =>
      refine .one hdesc (updatesOnly_latch (c := c) (.inl ?_))
      simp only [hdec, decodeControl, hc, ha]
    | some a =>
      refine .one hdesc (updatesOnly_modeSet (c := c) (a := a) (f := modeField b) (d := bcdField b) ?_)
      simp only [hdec, decodeControl, hc, ha, modesetOperands_modesetInstr]

/-- Every operation is of one of the kinds. -/
theorem Kind.all (v : Variant) (i : Instr) : Kind v i := by
  cases Row.all i with
  | readback v' => exact .readback v v'
  | latch c =>
    exact .one (by cases c <;> rfl) (updatesOnly_latch (.inl (latchInstr_atDecoder v c)))
  | modeset c a f d =>
    have hops : ((modesetInstr c a f d).atDecoder v).modesetOperands = some (c, a, f, d) := by
      rw [modesetInstr_atDecoder, modesetOperands_modesetInstr]
    exact .one (modesetInstr_describedOn v c a f d) (updatesOnly_modeSet hops)
  | read c => exact .read c
  | readCtrl => exact .refused .controlPortRead rfl fun _ _ => rfl
  | write b c => exact .one (by cases c <;> rfl) ⟨.write b, fun s _ => exec_writeInstr b c s⟩
  | writeCtrl b => exact .writeCtrl v b
  | setGate c g => exact .one rfl ⟨.setGate g, fun s _ => exec_setGate c g s⟩
  | tick => exact .tick
  | chTick c => exact .one rfl ⟨.chTick, fun s _ => exec_chTick c s⟩
  | reset => exact .reset
  | loadCycle c => exact .one rfl ⟨.loadCycle, fun _ _ => rfl⟩
  | placeholderLoad c => exact .one rfl ⟨.placeholderLoad, fun _ _ => rfl⟩
  | countMode c m => exact .one (by cases m <;> rfl) (updatesOnly_countMode v c m)
  | completeLoad c => exact .one rfl ⟨.completeLoad, fun _ _ => rfl⟩
  | latchOp c => exact .one rfl (updatesOnly_latch (.inr rfl))

/-! What each kind answers. -/

theorem next_unique {o : Outcome} {s t : State} (hs : o = .next s) (ht : o = .next t) : s = t := by
  injection hs.symm.trans ht

/-- What an operation does to a channel is the same in all states with the same parameters, and depends on that channel
alone. -/
theorem exec_chan (v : Variant) (i : Instr) (c : Channel) :
    ∃ op, Selects v c i op ∧
      ∀ s t : State, s.params.variant = v → exec i s = .next t → t.chan c = op.run s.params c (s.chan c) := by
  cases Kind.all v i with
  | refused r _ hexec =>
    refine ⟨.keep, .keep i, fun s t hv h => ?_⟩
    rw [hexec s hv] at h
    nomatch h
  | noOp _ hexec =>
    refine ⟨.keep, .keep i, fun s t hv h => ?_⟩
    obtain rfl := next_unique (hexec s hv) h
    rfl
  | @one _ c' op _ hupd =>
    obtain ⟨hsel, hexec⟩ := hupd
    by_cases hc : c = c'
    · subst hc
      refine ⟨op, hsel, fun s t hv h => ?_⟩
      obtain rfl := next_unique (hexec s hv) h
      exact s.chan_update_same c _
    · refine ⟨.keep, .keep i, fun s t hv h => ?_⟩
      obtain rfl := next_unique (hexec s hv) h
      exact s.chan_update_other _ hc
  | read c' =>
    by_cases hc : c = c'
    · subst hc
      refine ⟨.read, .read, fun s t _ h => ?_⟩
      obtain rfl := next_unique (exec_readInstr c s) h
      rw [State.readData_chan, if_pos rfl, ChanOp.run]
    · refine ⟨.keep, .keep _, fun s t _ h => ?_⟩
      obtain rfl := next_unique (exec_readInstr c' s) h
      rw [State.readData_chan, if_neg hc, ChanOp.run, id]
  | tick =>
    refine ⟨.tick, .tick, fun s t _ h => ?_⟩
    obtain rfl := next_unique (exec_tick s) h
    exact s.tickAll_chan c
  | reset =>
    refine ⟨.reset, .reset, fun s t _ h => ?_⟩
    obtain rfl := next_unique (exec_reset s) h
    exact s.resetAll_chan c

/-- An operation that completes leaves the parameters and the events to come. -/
theorem exec_params_inputs {i : Instr} {s t : State} (h : exec i s = .next t) :
    t.params = s.params ∧ t.inputs = s.inputs := by
  cases Kind.all s.params.variant i with
  | refused r _ hexec =>
    rw [hexec s rfl] at h
    nomatch h
  | noOp _ hexec =>
    obtain rfl := next_unique (hexec s rfl) h
    exact ⟨rfl, rfl⟩
  | one _ hupd =>
    obtain rfl := next_unique (hupd.2 s rfl) h
    exact ⟨s.update_params _ _, s.update_inputs _ _⟩
  | read c =>
    obtain rfl := next_unique (exec_readInstr c s) h
    exact ⟨s.readData_params c, s.readData_inputs c⟩
  | tick =>
    obtain rfl := next_unique (exec_tick s) h
    exact ⟨rfl, rfl⟩
  | reset =>
    obtain rfl := next_unique (exec_reset s) h
    exact ⟨rfl, rfl⟩

/-- Only a data read returns a byte, that of its channel (R8, R42). -/
theorem exec_dataOut (v : Variant) (i : Instr) :
    (∃ c, i = readInstr c) ∨
      ∀ s t : State, s.params.variant = v → exec i s = .next t → t.dataOut = s.dataOut := by
  cases Kind.all v i with
  | refused r _ hexec =>
    refine .inr fun s t hv h => ?_
    rw [hexec s hv] at h
    nomatch h
  | noOp _ hexec =>
    refine .inr fun s t hv h => ?_
    rw [next_unique (hexec s hv) h]
  | one _ hupd =>
    refine .inr fun s t hv h => ?_
    rw [← next_unique (hupd.2 s hv) h, State.update_dataOut]
  | read c => exact .inl ⟨c, rfl⟩
  | tick =>
    refine .inr fun s t _ h => ?_
    rw [← next_unique (exec_tick s) h, State.tickAll_dataOut]
  | reset =>
    refine .inr fun s t _ h => ?_
    rw [← next_unique (exec_reset s) h, State.resetAll_dataOut]

/-- What completes and what is refused depends on the operation and the variant alone (R210, R212). -/
theorem exec_answers (v : Variant) (i : Instr) :
    (i.describedOn v = true ∧ ∀ s : State, s.params.variant = v → ∃ t, exec i s = .next t) ∨
    (i.describedOn v = false ∧ ∃ r, ∀ s : State, s.params.variant = v → exec i s = .refused r) := by
  cases Kind.all v i with
  | refused r hdesc hexec => exact .inr ⟨hdesc, r, hexec⟩
  | noOp hdesc hexec => exact .inl ⟨hdesc, fun s hv => ⟨s, hexec s hv⟩⟩
  | one hdesc hupd => exact .inl ⟨hdesc, fun s hv => ⟨_, hupd.2 s hv⟩⟩
  | read c => exact .inl ⟨by cases c <;> rfl, fun s _ => ⟨_, exec_readInstr c s⟩⟩
  | tick => exact .inl ⟨rfl, fun s _ => ⟨_, exec_tick s⟩⟩
  | reset => exact .inl ⟨rfl, fun s _ => ⟨_, exec_reset s⟩⟩

/-- Settles O7: what an operation answers, with the parameters and the events to come kept when it completes. -/
theorem describedOperationsComplete : Obligations.DescribedOperationsComplete := by
  intro i s
  rcases exec_answers s.params.variant i with ⟨hdesc, hnext⟩ | ⟨hdesc, r, hrefused⟩
  · obtain ⟨t, ht⟩ := hnext s rfl
    exact ⟨fun _ => ⟨t, ht, exec_params_inputs ht⟩, fun h => absurd (hdesc.symm.trans h) (by decide)⟩
  · exact ⟨fun h => absurd (hdesc.symm.trans h) (by decide), fun _ => ⟨r, hrefused s rfl⟩⟩

/-- Settles O8: the two rows without a meaning, and the read-back command however it arrives on `Late`. -/
theorem undescribedOperationsAreRefused : Obligations.UndescribedOperationsAreRefused := by
  refine fun s => ⟨rfl, rfl, fun hlate => ?_⟩
  have hrefused : s.readbackCommand = .refused .readbackUndescribed := by
    rw [State.readbackCommand, hlate]
  refine ⟨(exec_readbackEarly s).trans hrefused, fun aa mmm d => ?_⟩
  rw [exec_writeCtrl, State.writeControl_readbackWord, hrefused]

/-- Settles O10: bus code 7 is a write of port 3, and the word means the same as at the decoder. -/
theorem portThreeWriteRunsTheControlWord : Obligations.PortThreeWriteRunsTheControlWord :=
  fun b s => ⟨rfl, (exec_decodeControl b s).symm⟩

/-- Settles O11: the effect on the channel is the same function of that channel in both runs. -/
theorem channelsNeverObserveOneAnother : Obligations.ChannelsNeverObserveOneAnother := by
  intro i c s₁ s₂ t₁ t₂ hparams hchan h₁ h₂
  obtain ⟨op, _, hop⟩ := exec_chan s₁.params.variant i c
  rw [hop s₁ t₁ rfl h₁, hop s₂ t₂ (by rw [hparams]) h₂, hparams, hchan]

end Sys2Proof.Machine
end

section
/-!
SUPPORT. The frames of the channel operations (R30), the mode set and the reset on the whole channel record (R83, R230),
and the count read (R122 to R124).
-/

namespace Sys2Proof.Machine

/-! The fields an operation on a channel can write (R30). -/

theorem Chan.frame_of_completeLoad {ch r : Chan} (h : r = ch.completeLoad) :
    r = { ch with armed := r.armed, loadPhase := r.loadPhase, countingState := r.countingState } :=
  h ▸ ch.completeLoad_frame

/-- The fields a count write can write. -/
theorem Chan.writeByte_frame (b : Byte) (ch : Chan) :
    ch.writeByte b = { ch with
      countRegister := (ch.writeByte b).countRegister, output := (ch.writeByte b).output,
      armed := (ch.writeByte b).armed, loadPhase := (ch.writeByte b).loadPhase,
      loadState := (ch.writeByte b).loadState, countingState := (ch.writeByte b).countingState } := by
  rcases ch.writeByte_cases b with ⟨_, h⟩ | ⟨_, h⟩ | ⟨_, _, h⟩ | ⟨_, _, h⟩
  · rw [Chan.frame_of_completeLoad h]
  · rw [Chan.frame_of_completeLoad h]
  · rw [h, Chan.writeFirstByte_eq]
  · rw [Chan.frame_of_completeLoad h]

/-- The fields a gate change can write. -/
theorem Chan.setGate_frame (g : Level) (ch : Chan) :
    ch.setGate g = { ch with
      gate := g, output := (ch.setGate g).output, countingState := (ch.setGate g).countingState } := by
  rcases ch.setGate_cases g with ⟨_, _, rfl, h⟩ | ⟨_, _, rfl, h⟩ | ⟨_, h⟩ <;> rw [h]
  · rw [Chan.risingEdge_eq]
  · rw [Chan.fallingEdge_eq]

theorem State.readData_sameChans (s : State) {c c' : Channel} (h : c' ≠ c) :
    (s.readData c).chan c' = s.chan c' := by
  rw [State.readData_chan, if_neg h]

theorem State.readData_chan_same (s : State) (c : Channel) : (s.readData c).chan c = (s.chan c).afterRead := by
  rw [State.readData_chan, if_pos rfl]

theorem State.writeData_chan_same (s : State) (c : Channel) (b : Byte) :
    (s.writeData c b).chan c = (s.chan c).writeByte b := by
  rw [State.writeData_chan, if_pos rfl]

/-- Settles O12: each column of R30 is the frame of the channel operation its event runs. -/
theorem eventsWriteOnlyTheirFields : Obligations.EventsWriteOnlyTheirFields := by
  intro i c s t h
  refine ⟨?modeSet, ?latch, ?write, ?read, ?setGate, ?chTick, ?tick, ?reset⟩
  case modeSet =>
    intro a f d hops
    obtain rfl := next_unique (exec_eq_modeSetCommand hops) h
    refine ⟨s.update_sameBut c _, ?_⟩
    rw [State.modeSetCommand_chan]
    exact ⟨rfl, rfl⟩
  case latch =>
    intro hlatch
    obtain rfl := next_unique (exec_eq_latchCommand (.inl hlatch)) h
    refine ⟨s.update_sameBut c _, ?_⟩
    rw [State.latchCommand_chan, Chan.latch_eq]
  case write =>
    rintro b rfl
    obtain rfl := next_unique (exec_writeInstr b c s) h
    refine ⟨s.update_sameBut c _, ?_⟩
    rw [State.writeData_chan_same]
    exact Chan.writeByte_frame b _
  case read =>
    rintro rfl
    obtain rfl := next_unique (exec_readInstr c s) h
    refine ⟨fun _ hc => s.readData_sameChans hc, ?_⟩
    rw [State.readData_chan_same, Chan.afterRead_eq]
  case setGate =>
    rintro g rfl
    obtain rfl := next_unique (exec_setGate c g s) h
    refine ⟨s.update_sameBut c _, ?_⟩
    rw [State.chan_update_same, Chan.setGate_frame]
  case chTick =>
    rintro rfl
    obtain rfl := next_unique (exec_chTick c s) h
    exact s.update_sameBut c _
  case tick =>
    rintro (rfl | rfl)
    · obtain rfl := next_unique (exec_tick s) h
      rw [State.tickAll_chan]
      exact ⟨rfl, Chan.tick_frame _ _⟩
    · obtain rfl := next_unique (exec_chTick c s) h
      rw [State.chTick_chan]
      exact ⟨s.update_dataOut c _, Chan.tick_frame _ _⟩
  case reset =>
    rintro rfl
    obtain rfl := next_unique (exec_reset s) h
    rw [State.resetAll_chan]
    exact ⟨rfl, rfl⟩

/-! The mode set and the reset (R83, R230). -/

/-- Settles O13: the mode set writes every field but the gate and the snapshot. -/
theorem modeSetEffect : Obligations.ModeSetEffect := by
  intro i s c a f d hops
  exact ⟨s.modeSetCommand c a f d, exec_eq_modeSetCommand hops, s.update_sameBut c _, s.modeSetCommand_chan c a f d⟩

/-- Settles O15: the mode stored is the mapped mode field. -/
theorem modeBitsSixAndSevenStoreModesTwoAndThree : Obligations.ModeBitsSixAndSevenStoreModesTwoAndThree := by
  intro i s c a f d hops
  refine ⟨s.modeSetCommand c a f d, exec_eq_modeSetCommand hops, ?_⟩
  rw [State.modeSetCommand_chan, Chan.modeSet_mode]
  cases f <;> rfl

/-- A mode set forgets everything of the channel but its gate and its snapshot register (R233). -/
theorem Chan.modeSet_eq_of_gate (v : Variant) (a : Access) (m : Mode) (d : Bool) {ch₁ ch₂ : Chan}
    (h : ch₁.gate = ch₂.gate) :
    ch₂.modeSet v a m d = { ch₁.modeSet v a m d with countLatch := (ch₂.modeSet v a m d).countLatch } := by
  simp only [Chan.modeSet, h]

/-- Settles O16: both runs are the same mode set, which forgets all but the gate and the snapshot register. -/
theorem modeSetForgetsHistory : Obligations.ModeSetForgetsHistory := by
  intro i s₁ s₂ t₁ t₂ c a f d hvariant hgate hops h₁ h₂
  obtain rfl := next_unique (exec_eq_modeSetCommand hops) h₁
  obtain rfl := next_unique (exec_eq_modeSetCommand (hvariant ▸ hops)) h₂
  rw [State.modeSetCommand_chan, State.modeSetCommand_chan, ← hvariant]
  exact ⟨rfl, rfl, Chan.modeSet_eq_of_gate _ a _ d hgate⟩

/-- An update that is idempotent on channels is idempotent on states. -/
theorem State.update_update {s : State} {c : Channel} {f : Chan → Chan} (h : f (f (s.chan c)) = f (s.chan c)) :
    (s.update c f).update c f = s.update c f :=
  State.update_eq_self (by rw [State.chan_update_same, h])

/-- Settles O18: the second mode set writes the values of the first; the second latch finds a snapshot. -/
theorem modeSetAndLatchAreIdempotent : Obligations.ModeSetAndLatchAreIdempotent := by
  rintro i s (hmodeset | ⟨c, hlatch⟩)
  · obtain ⟨⟨c, a, f, d⟩, hops⟩ := Option.isSome_iff_exists.mp hmodeset
    have hkept : (s.modeSetCommand c a f d).params = s.params := s.update_params c _
    refine ⟨s.modeSetCommand c a f d, exec_eq_modeSetCommand hops, ?_⟩
    rw [exec_eq_modeSetCommand (hkept ▸ hops), State.modeSetCommand, hkept]
    exact congrArg _ (State.update_update rfl)
  · have hkept : (s.latchCommand c).params = s.params := s.update_params c _
    refine ⟨s.latchCommand c, exec_eq_latchCommand (.inl hlatch), ?_⟩
    rw [exec_eq_latchCommand (.inl (hkept ▸ hlatch))]
    exact congrArg _ (State.update_update (Chan.latch_latch _))

/-- Settles O54: RESET is a mode set with the reset parameters that clears the snapshot register too. -/
theorem resetReinitialisesEveryChannel : Obligations.ResetReinitialisesEveryChannel := by
  refine fun s => ⟨s.resetAll, exec_reset s, rfl, rfl, rfl, fun c => ?_⟩
  rw [State.resetAll_chan]
  rfl

theorem State.create_chan (p : Params) (c : Channel) :
    (State.create p).chan c = Chan.create p.variant (p.channel c) := by
  cases c <;> rfl

/-- A created channel holds the reset values, so RESET changes nothing in it (R232). -/
theorem Chan.create_resetWith (v : Variant) (p : ChannelParams) :
    (Chan.create v p).resetWith v p = Chan.create v p := rfl

/-- Settles O55: RESET on a created block, channel by channel. -/
theorem creationIsResetWithInitialGate : Obligations.CreationIsResetWithInitialGate := by
  refine ⟨fun p => ⟨?_, fun c => ?_, rfl, rfl⟩, rfl⟩
  · rw [exec_reset]
    refine congrArg _ (State.ext_chan rfl rfl rfl fun c => ?_)
    rw [State.resetAll_chan, State.create_chan]
    exact Chan.create_resetWith p.variant (p.channel c)
  · rw [State.create_chan]
    rfl

/-! The count read (R122 to R124). -/

theorem Chan.afterRead_of_lsb {ch : Chan} (h : ch.access = .lsb) :
    ch.readByte = lowByte ch.readSource ∧ ch.afterRead = { ch with latched := false } := by
  simp [Chan.readByte, Chan.afterRead, h]

theorem Chan.afterRead_of_msb {ch : Chan} (h : ch.access = .msb) :
    ch.readByte = highByte ch.readSource ∧ ch.afterRead = { ch with latched := false } := by
  simp [Chan.readByte, Chan.afterRead, h]

theorem Chan.afterRead_of_firstByte {ch : Chan} (ha : ch.access = .lsbMsb) (hr : ch.readState = .firstByte) :
    ch.readByte = lowByte ch.readSource ∧ ch.afterRead = { ch with readState := .secondByte } := by
  simp [Chan.readByte, Chan.afterRead, ha, hr]

theorem Chan.afterRead_of_secondByte {ch : Chan} (ha : ch.access = .lsbMsb) (hr : ch.readState = .secondByte) :
    ch.readByte = highByte ch.readSource ∧
      ch.afterRead = { ch with readState := .firstByte, latched := false } := by
  simp [Chan.readByte, Chan.afterRead, ha, hr]

/-- Settles O20: the read in each access mode, from the source that the snapshot flag selects. -/
theorem readDataReturnsTheByteInSequence : Obligations.ReadDataReturnsTheByteInSequence := by
  refine fun c s => ⟨s.readData c, exec_readInstr c s, fun _ hc => s.readData_sameChans hc,
    s.readData_params c, s.readData_inputs c, ?_⟩
  rw [State.readData_dataOut, State.readData_chan_same]
  exact ⟨fun ha => (Chan.afterRead_of_lsb ha).imp_left (congrArg some),
    fun ha => (Chan.afterRead_of_msb ha).imp_left (congrArg some),
    fun ha hr => (Chan.afterRead_of_firstByte ha hr).imp_left (congrArg some),
    fun ha hr => (Chan.afterRead_of_secondByte ha hr).imp_left (congrArg some)⟩

end Sys2Proof.Machine
end

section
/-!
SUPPORT. The count load (R100 to R106), the gate (R141 to R147) and the tick of one channel (R160 to R165).
-/

namespace Sys2Proof.Machine

/-! The count load. -/

theorem Chan.writeByte_of_lsb (b : Byte) {ch : Chan} (h : ch.access = .lsb) :
    ch.writeByte b = Chan.completeLoad { ch with countRegister := ch.countRegister.extractLsb 15 8 ++ b } :=
  show ch.writeByte b = ch.writeLsbOnly b by rw [Chan.writeByte, h]

theorem Chan.writeByte_of_msb (b : Byte) {ch : Chan} (h : ch.access = .msb) :
    ch.writeByte b = Chan.completeLoad { ch with countRegister := b ++ ch.countRegister.extractLsb 7 0 } :=
  show ch.writeByte b = ch.writeMsbOnly b by rw [Chan.writeByte, h]

theorem Chan.writeByte_of_firstByte (b : Byte) {ch : Chan} (ha : ch.access = .lsbMsb)
    (hl : ch.loadState = .firstByte) : ch.writeByte b = ch.writeFirstByte b := by
  simp only [Chan.writeByte, Chan.writeTwoByte, ha, hl]

theorem Chan.writeByte_of_secondByte (b : Byte) {ch : Chan} (ha : ch.access = .lsbMsb)
    (hl : ch.loadState = .secondByte) :
    ch.writeByte b = Chan.completeLoad
      { ch with countRegister := b ++ ch.countRegister.extractLsb 7 0, loadState := .firstByte } :=
  show ch.writeByte b = ch.writeSecondByte b by simp only [Chan.writeByte, Chan.writeTwoByte, ha, hl]

/-- In mode 0 the first byte stops the count with the output LOW (R103). -/
theorem Chan.writeFirstByte_of_mode0 (b : Byte) {ch : Chan} (h : ch.mode = .mode0) :
    ch.writeFirstByte b = { ch with
      countRegister := ch.countRegister.extractLsb 15 8 ++ b, loadState := .secondByte,
      output := .low, countingState := .waitingForReload } := by
  rw [Chan.writeFirstByte_eq, if_pos h, if_pos h]
  rfl

theorem Chan.writeFirstByte_of_not_mode0 (b : Byte) {ch : Chan} (h : ch.mode ≠ .mode0) :
    ch.writeFirstByte b = { ch with
      countRegister := ch.countRegister.extractLsb 15 8 ++ b, loadState := .secondByte } := by
  rw [Chan.writeFirstByte_eq, if_neg h, if_neg h]
  rfl

/-- Settles O23: the byte in its half of the count register, then the load completion. -/
theorem singleByteWriteCompletesTheLoad : Obligations.SingleByteWriteCompletesTheLoad := by
  intro b c s _
  refine ⟨s.writeData c b, exec_writeInstr b c s, s.update_sameBut c _, ?_⟩
  rw [State.writeData_chan_same]
  exact ⟨Chan.writeByte_of_lsb b, Chan.writeByte_of_msb b⟩

/-- Settles O24: the two places of the sequencer, the first by mode. -/
theorem twoByteWriteWaitsForTheSecondByte : Obligations.TwoByteWriteWaitsForTheSecondByte := by
  intro b c s haccess
  refine ⟨s.writeData c b, exec_writeInstr b c s, s.update_sameBut c _, ?_⟩
  rw [State.writeData_chan_same]
  refine ⟨fun hfirst hmode => ?_, fun hfirst hmode => ?_, Chan.writeByte_of_secondByte b haccess⟩
  · rw [Chan.writeByte_of_firstByte b haccess hfirst, Chan.writeFirstByte_of_not_mode0 b hmode]
  · rw [Chan.writeByte_of_firstByte b haccess hfirst, Chan.writeFirstByte_of_mode0 b hmode]

theorem Chan.completeLoad_of_subsequent {ch : Chan} (h : ch.loadPhase = .subsequent) :
    ch.completeLoad = ch.subsequentLoad := by
  rw [Chan.completeLoad, h]

/-- In modes 0 and 4 a later load asks for a load cycle (R106). -/
theorem Chan.completeLoad_of_restarted {ch : Chan} (hphase : ch.loadPhase = .subsequent)
    (h : ch.mode = .mode0 ∨ ch.mode = .mode4) :
    ch.completeLoad = { ch with countingState := .waitingForLoadCycle } := by
  rw [Chan.completeLoad_of_subsequent hphase, Chan.subsequentLoad_eq, if_pos h]

/-- In the other modes it leaves the count alone (R106). -/
theorem Chan.completeLoad_of_not_restarted {ch : Chan} (hphase : ch.loadPhase = .subsequent)
    (h : ¬ (ch.mode = .mode0 ∨ ch.mode = .mode4)) : ch.completeLoad = ch := by
  rw [Chan.completeLoad_of_subsequent hphase, Chan.subsequentLoad_eq, if_neg h]

/-- Settles O27: the two cases of R106. -/
theorem completeLoadOfASubsequentLoad : Obligations.CompleteLoadOfASubsequentLoad := by
  intro c s hphase
  refine ⟨s.update c Chan.completeLoad, exec_completeLoad c s, s.update_sameBut c _, fun h => ?_, fun h => ?_⟩
  · rw [State.chan_update_same, Chan.completeLoad_of_restarted hphase h]
  · exact State.update_eq_self (Chan.completeLoad_of_not_restarted hphase h)

/-- A single-byte write replaces the half of the count register that the access mode names, then completes the load. -/
theorem Chan.writeByte_of_singleByte (b : Byte) {ch : Chan} (h : ch.access ≠ .lsbMsb) :
    ch.writeByte b = Chan.completeLoad { ch with
      countRegister := if ch.access = .lsb then ch.countRegister.extractLsb 15 8 ++ b
        else b ++ ch.countRegister.extractLsb 7 0 } := by
  by_cases hlsb : ch.access = .lsb
  · rw [Chan.writeByte_of_lsb b hlsb, if_pos hlsb]
  · have hmsb : ch.access = .msb := by
      cases ha : ch.access <;> simp_all
    rw [Chan.writeByte_of_msb b hmsb, if_neg hlsb]

/-- Settles O26: the write completes a later load; where that asks for a load cycle the next tick of the channel runs
it. -/
theorem subsequentLoadDisturbsOnlyModesZeroAndFour : Obligations.SubsequentLoadDisturbsOnlyModesZeroAndFour := by
  intro b c s hphase haccess
  refine ⟨s.writeData c b, exec_writeInstr b c s, s.update_sameBut c _, fun h => ?_, fun h => ?_⟩
  · have hwrite := (s.writeData_chan_same c b).trans
      ((Chan.writeByte_of_singleByte b haccess).trans (Chan.completeLoad_of_restarted hphase h))
    refine ⟨hwrite, (s.writeData c b).chTick c, exec_chTick c _, ?_⟩
    rw [State.chTick_chan, hwrite, Chan.tick_of_waitingForLoadCycle _ rfl]
    exact ⟨rfl, rfl⟩
  · exact (s.writeData_chan_same c b).trans
      ((Chan.writeByte_of_singleByte b haccess).trans (Chan.completeLoad_of_not_restarted hphase h))

/-! The gate. -/

/-- A repeated level is no edge (R142). -/
theorem Chan.setGate_of_same {g : Level} {ch : Chan} (h : ch.gate = g) : ch.setGate g = ch := by
  subst h
  rcases ch.setGate_cases ch.gate with ⟨_, hlow, hhigh, _⟩ | ⟨_, hhigh, hlow, _⟩ | ⟨_, hset⟩
  · exact absurd (hlow.symm.trans hhigh) (by decide)
  · exact absurd (hhigh.symm.trans hlow) (by decide)
  · exact hset

/-- In modes 0 and 4 neither edge has an effect of its own (R143, R144, R145). -/
theorem Chan.setGate_of_software {ch : Chan} (g : Level) (h : ch.mode = .mode0 ∨ ch.mode = .mode4) :
    ch.setGate g = { ch with gate := g } := by
  have hnot : ¬ (ch.mode = .mode2 ∨ ch.mode = .mode3) := by
    rcases h with h | h <;> simp [h]
  rcases ch.setGate_cases g with ⟨_, _, rfl, hset⟩ | ⟨_, _, rfl, hset⟩ | ⟨_, hset⟩
  · exact hset.trans (Chan.risingEdge_of_not_retriggered h)
  · exact hset.trans (Chan.fallingEdge_of_not_periodic hnot)
  · exact hset

/-- Settles O30: the two reasons for a gate change to be no edge, and the modes in which an edge has no effect. -/
theorem gateChangesWithoutSideEffect : Obligations.GateChangesWithoutSideEffect := by
  refine fun c g s => ⟨s.update c (Chan.setGate g), exec_setGate c g s,
    fun h => State.update_eq_self (Chan.setGate_of_same h), fun h => congrArg (s.setChan c) ?_⟩
  rcases h with hwait | hmode
  · exact Chan.setGate_of_waitingForReload g hwait
  · exact Chan.setGate_of_software g hmode

/-- A LOW pulse of a HIGH gate in modes 2 and 3 leaves a pending load cycle with the output HIGH (R147). -/
theorem Chan.setGate_pulse {ch : Chan} (hmode : ch.mode = .mode2 ∨ ch.mode = .mode3) (hgate : ch.gate = .high)
    (hstate : ch.countingState ≠ .waitingForReload) :
    (ch.setGate .low).setGate .high = { ch with countingState := .waitingForLoadCycle, output := .high } := by
  have hnot : ¬ (ch.mode = .mode0 ∨ ch.mode = .mode4) := by
    rcases hmode with h | h <;> simp [h]
  have hfall : ch.setGate .low =
      { ch with gate := .low, countingState := .waitingForGate, output := .high } := by
    rw [Chan.setGate_low_of_high hgate hstate]
    exact Chan.fallingEdge_of_periodic hmode
  rw [hfall, Chan.setGate_high_of_low rfl (by simp)]
  simp only [Chan.risingEdge_eq, hnot, if_false, hgate]

theorem postReloadLevel_of_periodic {m : Mode} (h : m = .mode2 ∨ m = .mode3) : postReloadLevel m = .high := by
  rcases h with rfl | rfl <;> rfl

/-- Settles O31: the pulse asks for a load cycle, which the tick runs. -/
theorem gatePulseRestartsPeriodicModes : Obligations.GatePulseRestartsPeriodicModes := by
  intro c s hmode hgate hstate
  refine ⟨((s.update c (Chan.setGate .low)).update c (Chan.setGate .high)).tickAll, rfl, ?_⟩
  rw [State.tickAll_chan, State.chan_update_same, State.chan_update_same, Chan.setGate_pulse hmode hgate hstate,
    Chan.tick_of_waitingForLoadCycle _ rfl]
  simp only [Chan.loadCycle, Chan.reload, postReloadLevel_of_periodic hmode]

/-! The tick. -/

theorem State.chTick_chan_other (s : State) {c c' : Channel} (h : c' ≠ c) : (s.chTick c).chan c' = s.chan c' :=
  s.chan_update_other _ h

theorem State.chTick_params (s : State) (c : Channel) : (s.chTick c).params = s.params :=
  s.update_params c _

/-- Three different channels are all there are (R2). -/
theorem channel_mem_of_distinct {a b c : Channel} (hab : a ≠ b) (hbc : b ≠ c) (hac : a ≠ c) (x : Channel) :
    x = a ∨ x = b ∨ x = c := by
  cases a <;> cases b <;> cases c <;> cases x <;> simp_all

/-- In any order the three channel ticks give each channel its own tick (R160). -/
theorem State.chTick_three (s : State) {a b c : Channel} (hab : a ≠ b) (hbc : b ≠ c) (hac : a ≠ c) :
    ((s.chTick a).chTick b).chTick c = s.tickAll := by
  refine State.ext_chan ?_ ?_ ?_ fun x => ?_
  · simp only [State.chTick_params, State.tickAll_params]
  · simp only [State.chTick, State.update_inputs, State.tickAll_inputs]
  · simp only [State.chTick, State.update_dataOut, State.tickAll_dataOut]
  · rw [State.tickAll_chan]
    rcases channel_mem_of_distinct hab hbc hac x with rfl | rfl | rfl
    · rw [State.chTick_chan_other _ hac, State.chTick_chan_other _ hab, State.chTick_chan]
    · rw [State.chTick_chan_other _ hbc, State.chTick_chan, State.chTick_chan_other _ hab.symm, State.chTick_params]
    · rw [State.chTick_chan, State.chTick_chan_other _ hbc.symm, State.chTick_chan_other _ hac.symm,
        State.chTick_params, State.chTick_params]

/-- Settles O32: each channel gets its own tick whatever the order. -/
theorem tickIsThreeChannelTicksInAnyOrder : Obligations.TickIsThreeChannelTicksInAnyOrder :=
  fun s => ⟨s.tickAll, exec_tick s, s.tickAll_chan, rfl, rfl, rfl,
    fun _ _ _ hab hbc hac => congrArg _ (s.chTick_three hab hbc hac)⟩

/-- Two operations with the same result on the channel have the same result on the state. -/
theorem State.next_update_congr {s : State} {c : Channel} {f g : Chan → Chan} (h : f (s.chan c) = g (s.chan c)) :
    (.next (s.update c f) : Outcome) = .next (s.update c g) :=
  congrArg (fun ch => (.next (s.setChan c ch) : Outcome)) h

theorem exec_countModeInstr (c : Channel) (m : Mode) (s : State) :
    exec (countModeInstr c m) s = .next (s.update c (Chan.countMode s.params.variant m)) :=
  (updatesOnly_countMode s.params.variant c m).2 s rfl

theorem Chan.tick_of_untriggered (p : Params) {ch : Chan} (hs : ch.countingState = .waitingForLoadTrigger)
    (h : ¬ (ch.armed = true ∧ ch.ceUndefined = false)) : ch.tick p = ch.modeRule p.variant := by
  have hcond : (ch.armed && !ch.ceUndefined) = false := by
    simpa using h
  simp only [Chan.tick, hs, hcond, Bool.false_eq_true, if_false]

theorem Chan.tick_of_first_untriggered (p : Params) {ch : Chan} (hs : ch.countingState = .waitingForLoadTrigger)
    (ha : ch.armed = true) (hu : ch.ceUndefined = false) : ch.tick p = ch.placeholderLoad p.placeholder := by
  simp [Chan.tick, hs, ha, hu]

theorem Chan.tick_of_countingTriggered (p : Params) {ch : Chan} (h : ch.countingState = .countingTriggered) :
    ch.tick p = ch.modeRule p.variant := by
  rw [Chan.tick, h]

theorem Chan.tick_of_idle (p : Params) {ch : Chan}
    (h : ch.countingState = .waitingForReload ∨ ch.countingState = .waitingForGate) : ch.tick p = ch := by
  rcases h with h | h <;> rw [Chan.tick, h]

/-- Settles O33: the cases of the tick, each the channel operation of its INTERNAL row. -/
theorem chTickSelectsOneInternalOperation : Obligations.ChTickSelectsOneInternalOperation := by
  intro c s
  rw [exec_chTick, exec_countModeInstr]
  have hrule : (s.chan c).modeRule s.params.variant = (s.chan c).countMode s.params.variant (s.chan c).mode :=
    Chan.modeRule_eq_countMode _ _
  refine ⟨fun h => ?_, fun hs ha hu => ?_, fun hs h => ?_, fun h => ?_, fun h => congrArg _ ?_⟩
  · exact State.next_update_congr (Chan.tick_of_waitingForLoadCycle _ h)
  · exact State.next_update_congr (Chan.tick_of_first_untriggered _ hs ha hu)
  · exact State.next_update_congr ((Chan.tick_of_untriggered _ hs h).trans hrule)
  · refine State.next_update_congr (Eq.trans ?_ hrule)
    exact h.elim (Chan.tick_of_counting _) (Chan.tick_of_countingTriggered _)
  · exact State.update_eq_self (Chan.tick_of_idle _ h)

/-- Settles O34: CH_TICK and TICK give the channel the same tick. -/
theorem chTickAdvancesOneChannel : Obligations.ChTickAdvancesOneChannel :=
  fun c s => ⟨s.chTick c, exec_chTick c s, s.update_sameBut c _, s.chTick_chan c, s.tickAll, exec_tick s,
    (s.tickAll_chan c).trans (s.chTick_chan c).symm⟩

/-- Settles O35: the load cycle of the channel, with its post-reload level by mode. -/
theorem loadCycleLoadsWithoutCounting : Obligations.LoadCycleLoadsWithoutCounting := by
  refine fun c s => ⟨s.update c Chan.loadCycle, rfl, s.update_sameBut c _, ?_⟩
  rw [State.chan_update_same]
  unfold Chan.loadCycle
  cases (s.chan c).mode <;> rfl

/-- Settles O36: the placeholder load of the channel. -/
theorem placeholderLoadMarksTheCounter : Obligations.PlaceholderLoadMarksTheCounter :=
  fun c s => ⟨s.update c (Chan.placeholderLoad s.params.placeholder), rfl, s.update_sameBut c _,
    s.chan_update_same c _⟩

end Sys2Proof.Machine
end

section
/-!
SUPPORT. The decrement as arithmetic on the number a counter stands for, in binary and BCD alike (R166, R168, R169).
-/

namespace Sys2Proof.Machine

/-! The number a counter stands for. -/

theorem eq_of_digits {v w : Count} (h0 : digit 0 v = digit 0 w) (h1 : digit 1 v = digit 1 w)
    (h2 : digit 2 v = digit 2 w) (h3 : digit 3 v = digit 3 w) : v = w := by
  rw [← packDigits_digits v, ← packDigits_digits w, h0, h1, h2, h3]

/-- Decimal digits are those of the number (R69). -/
theorem bcdValue_injective {v w : Count} (hv : ValidBcd v) (hw : ValidBcd w) (h : bcdValue v = bcdValue w) : v = w := by
  obtain ⟨hv0, hv1, hv2, hv3⟩ := hv
  obtain ⟨hw0, hw1, hw2, hw3⟩ := hw
  unfold bcdValue at h
  apply eq_of_digits <;> apply BitVec.eq_of_toNat_eq <;> omega

theorem bcdValue_lt {v : Count} (hv : ValidBcd v) : bcdValue v < 10000 := by
  obtain ⟨h0, h1, h2, h3⟩ := hv
  unfold bcdValue
  omega

theorem cycleLength_pos (bcd : Bool) : 0 < cycleLength bcd := by
  cases bcd <;> decide

theorem countValue_lt {bcd : Bool} {v : Count} (hv : ValidCount bcd v) : countValue bcd v < cycleLength bcd := by
  cases bcd
  · exact v.isLt
  · exact bcdValue_lt (hv rfl)

theorem countValue_injective {bcd : Bool} {v w : Count} (hv : ValidCount bcd v) (hw : ValidCount bcd w)
    (h : countValue bcd v = countValue bcd w) : v = w := by
  cases bcd
  · exact BitVec.eq_of_toNat_eq h
  · exact bcdValue_injective (hv rfl) (hw rfl) h

/-- Zero and one stand for themselves, so the terminal tests are tests of the number (R168, R187). -/
theorem countValue_eq_iff {bcd : Bool} {v : Count} (hv : ValidCount bcd v) :
    (countValue bcd v = 0 ↔ v = 0) ∧ (countValue bcd v = 1 ↔ v = 1) := by
  have hzero : countValue bcd 0 = 0 := by cases bcd <;> rfl
  have hone : countValue bcd 1 = 1 := by cases bcd <;> rfl
  have valid_zero : ValidCount bcd 0 := fun _ => by decide
  have valid_one : ValidCount bcd 1 := fun _ => by decide
  refine ⟨⟨fun h => ?_, fun h => h ▸ hzero⟩, fun h => ?_, fun h => h ▸ hone⟩
  · exact countValue_injective hv valid_zero (h.trans hzero.symm)
  · exact countValue_injective hv valid_one (h.trans hone.symm)

/-- Bit 0 is the parity of the number, decimal or binary (R190). -/
theorem countValue_mod_two (bcd : Bool) (v : Count) : countValue bcd v % 2 = (isOdd v).toNat := by
  have hbit : (isOdd v).toNat = v.toNat % 2 := by
    rw [isOdd, BitVec.getLsbD, Nat.testBit_zero]
    rcases Nat.mod_two_eq_zero_or_one v.toNat with h | h <;> simp [h]
  cases bcd
  · exact hbit.symm
  · have hdigit : (digit 0 v).toNat = v.toNat % 16 := by
      rw [digit_toNat]
      simp
    rw [hbit]
    show bcdValue v % 2 = v.toNat % 2
    unfold bcdValue
    omega

/-! One decrement. -/

theorem toNat_pos {n : BitVec 4} (h : ¬ n = 0) : 0 < n.toNat :=
  Nat.pos_of_ne_zero fun hz => h (BitVec.eq_of_toNat_eq hz)

theorem sub_one_toNat {n : BitVec 4} (h : ¬ n = 0) : (n - 1).toNat = n.toNat - 1 := by
  have hpos := toNat_pos h
  bv_omega

theorem validBcd_packDigits (n3 n2 n1 n0 : BitVec 4) :
    ValidBcd (packDigits n3 n2 n1 n0) ↔ n0.toNat ≤ 9 ∧ n1.toNat ≤ 9 ∧ n2.toNat ≤ 9 ∧ n3.toNat ≤ 9 := by
  simp only [ValidBcd, digit_zero_pack, digit_one_pack, digit_two_pack, digit_three_pack]

theorem bcdValue_packDigits (n3 n2 n1 n0 : BitVec 4) :
    bcdValue (packDigits n3 n2 n1 n0) = 1000 * n3.toNat + 100 * n2.toNat + 10 * n1.toNat + n0.toNat := by
  simp only [bcdValue, digit_zero_pack, digit_one_pack, digit_two_pack, digit_three_pack]

/-- The digit rule of R166, case by case on the digit that ends the borrow. -/
theorem decBcd_value {v : Count} (hv : ValidBcd v) :
    ValidBcd (decBcd v) ∧ bcdValue (decBcd v) = (bcdValue v + 9999) % 10000 := by
  obtain ⟨h0, h1, h2, h3⟩ := hv
  have hzero : (0 : BitVec 4).toNat = 0 := rfl
  have hnine : (9 : BitVec 4).toNat = 9 := rfl
  simp only [decBcd, ne_eq, ite_not]
  split_ifs with d0 d1 d2 d3 <;> rw [validBcd_packDigits, bcdValue_packDigits, bcdValue]
  · rw [d0, d1, d2, d3, hnine]
    decide
  · rw [d0, d1, d2, hnine, sub_one_toNat d3, hzero]
    have := toNat_pos d3
    omega
  · rw [d0, d1, hnine, sub_one_toNat d2, hzero]
    have := toNat_pos d2
    omega
  · rw [d0, hnine, sub_one_toNat d1, hzero]
    have := toNat_pos d1
    omega
  · rw [sub_one_toNat d0]
    have := toNat_pos d0
    omega

/-- One decrement keeps decimal digits decimal and subtracts one in the cycle (R166). -/
theorem dec_value {bcd : Bool} {v : Count} (hv : ValidCount bcd v) :
    ValidCount bcd (dec v bcd) ∧
      countValue bcd (dec v bcd) = (countValue bcd v + (cycleLength bcd - 1)) % cycleLength bcd := by
  cases bcd
  · refine ⟨(nomatch ·), ?_⟩
    show (v - 1).toNat = (v.toNat + 65535) % 65536
    rw [BitVec.toNat_sub, Nat.add_comm]
    rfl
  · obtain ⟨hvalid, hvalue⟩ := decBcd_value (hv rfl)
    exact ⟨fun _ => hvalid, hvalue⟩

/-- Settles O45: the two values of the flag. -/
theorem decrementIsSubtractionOfOne : Obligations.DecrementIsSubtractionOfOne :=
  fun _ => ⟨(dec_value (bcd := false) fun h => nomatch h).2, decBcd_value⟩

/-! Iterated decrements. -/

theorem decK_succ_right (k : Nat) (v : Count) (bcd : Bool) : decK (k + 1) v bcd = dec (decK k v bcd) bcd := by
  rw [decK_add, decK_one]

/-- `k` decrements subtract `k` in the cycle. -/
theorem decK_value {bcd : Bool} {v : Count} (hv : ValidCount bcd v) (k : Nat) :
    ValidCount bcd (decK k v bcd) ∧
      countValue bcd (decK k v bcd) = (countValue bcd v + (cycleLength bcd - 1) * k) % cycleLength bcd := by
  induction k with
  | zero => exact ⟨hv, (Nat.mod_eq_of_lt (countValue_lt hv)).symm⟩
  | succ k ih =>
    obtain ⟨hvalid, hvalue⟩ := ih
    obtain ⟨hvalid', hvalue'⟩ := dec_value hvalid
    rw [decK_succ_right]
    refine ⟨hvalid', ?_⟩
    rw [hvalue', hvalue, Nat.mod_add_mod, Nat.mul_succ, Nat.add_assoc]

/-- After a whole cycle the counter is back. -/
theorem decK_cycleLength {bcd : Bool} {v : Count} (hv : ValidCount bcd v) : decK (cycleLength bcd) v bcd = v := by
  obtain ⟨hvalid, hvalue⟩ := decK_value hv (cycleLength bcd)
  refine countValue_injective hvalid hv ?_
  rw [hvalue, Nat.add_mul_mod_self_right, Nat.mod_eq_of_lt (countValue_lt hv)]

/-- Settles O46: the iteration and the whole cycle, for the two values of the flag. -/
theorem iteratedDecrementCycles : Obligations.IteratedDecrementCycles := by
  intro k v
  have hbinary : ValidCount false v := fun h => nomatch h
  have hcycle (bcd : Bool) : cycleLength bcd = if bcd then 10000 else 65536 := rfl
  refine ⟨(decK_value hbinary k).2, fun hv => ?_, ?_, fun hv => ?_⟩
  · obtain ⟨hvalid, hvalue⟩ := decK_value (bcd := true) (fun _ => hv) k
    exact ⟨hvalid rfl, hvalue⟩
  · have hback := decK_cycleLength hbinary
    rwa [hcycle, if_neg Bool.false_ne_true] at hback
  · have hback := decK_cycleLength (bcd := true) fun _ => hv
    rwa [hcycle, if_pos rfl] at hback

/-- An even number of decrements keeps the parity (R190). -/
theorem isOdd_decK_two_mul (j : Nat) (v : Count) (bcd : Bool) : isOdd (decK (2 * j) v bcd) = isOdd v := by
  induction j with
  | zero => rfl
  | succ j ih =>
    rw [Nat.mul_succ, decK_add, decK_two, isOdd_dec, isOdd_dec, Bool.not_not, ih]

/-! Counting down from a loaded count (R69, R251). -/

/-- The loaded count is at least one and at most the whole cycle, and the counter holds it modulo the cycle. -/
theorem loadedCount_bounds {bcd : Bool} {v : Count} (hv : ValidCount bcd v) :
    0 < loadedCount bcd v ∧ loadedCount bcd v ≤ cycleLength bcd ∧
      countValue bcd v = loadedCount bcd v % cycleLength bcd := by
  have hlt := countValue_lt hv
  have hzero := (countValue_eq_iff hv).1
  unfold loadedCount
  split
  · next h => exact ⟨cycleLength_pos bcd, le_rfl, by rw [hzero.mpr h, Nat.mod_self]⟩
  · next h => exact ⟨Nat.pos_of_ne_zero fun hz => h (hzero.mp hz), hlt.le, (Nat.mod_eq_of_lt hlt).symm⟩

/-- `k` decrements from a loaded count `N` leave `N - k`, modulo the cycle. -/
theorem countValue_decK_wrapped {bcd : Bool} {v : Count} (hv : ValidCount bcd v) {k : Nat}
    (hk : k ≤ loadedCount bcd v + cycleLength bcd) :
    countValue bcd (decK k v bcd) = (loadedCount bcd v + cycleLength bcd - k) % cycleLength bcd := by
  obtain ⟨_, _, hmod⟩ := loadedCount_bounds hv
  have hpos := cycleLength_pos bcd
  rw [(decK_value hv k).2, hmod, Nat.mod_add_mod]
  generalize loadedCount bcd v = N at *
  generalize cycleLength bcd = L at *
  obtain ⟨M, rfl⟩ : ∃ M, L = M + 1 := ⟨L - 1, by omega⟩
  have hsum : N + (M + 1 - 1) * k + (M + 1) = N + (M + 1) - k + (M + 1) * k := by
    rw [Nat.add_sub_cancel, Nat.add_mul, Nat.one_mul]
    omega
  rw [← Nat.add_mod_right, hsum, Nat.add_mul_mod_self_left]

/-- As long as the count has not run out, `k` decrements leave `N - k`. -/
theorem countValue_decK_loaded {bcd : Bool} {v : Count} (hv : ValidCount bcd v) {k : Nat}
    (hk : k ≤ loadedCount bcd v) :
    countValue bcd (decK k v bcd) = (loadedCount bcd v - k) % cycleLength bcd := by
  rw [countValue_decK_wrapped hv (by omega), Nat.sub_add_comm hk, Nat.add_mod_right]

/-- On the way down the counter is zero exactly when the count has run out, and not on the tick after it. -/
theorem decK_eq_zero_iff {bcd : Bool} {v : Count} (hv : ValidCount bcd v) {k : Nat} (hpos : 0 < k)
    (hk : k ≤ loadedCount bcd v + 1) : decK k v bcd = 0 ↔ k = loadedCount bcd v := by
  obtain ⟨_, hle, _⟩ := loadedCount_bounds hv
  have hcycle : 1 < cycleLength bcd := by cases bcd <;> decide
  rw [← (countValue_eq_iff (decK_value hv k).1).1, countValue_decK_wrapped hv (by omega)]
  generalize loadedCount bcd v = N at *
  generalize cycleLength bcd = L at *
  by_cases hwrap : k ≤ N
  · rw [Nat.sub_add_comm hwrap, Nat.add_mod_right, Nat.mod_eq_of_lt (by omega)]
    omega
  · rw [Nat.mod_eq_of_lt (by omega)]
    omega

/-- On the way down the counter is one exactly on the last step before the count has run out. -/
theorem decK_eq_one_iff {bcd : Bool} {v : Count} (hv : ValidCount bcd v) {k : Nat} (hpos : 0 < k)
    (hk : k ≤ loadedCount bcd v) : decK k v bcd = 1 ↔ k + 1 = loadedCount bcd v := by
  obtain ⟨_, hle, _⟩ := loadedCount_bounds hv
  rw [← (countValue_eq_iff (decK_value hv k).1).2, countValue_decK_loaded hv hk, Nat.mod_eq_of_lt (by omega)]
  omega

/-- The parity of a loaded count is that of the counter, since the cycles are even. -/
theorem loadedCount_mod_two {bcd : Bool} {v : Count} (hv : ValidCount bcd v) :
    loadedCount bcd v % 2 = (isOdd v).toNat := by
  have hcycle : 2 ∣ cycleLength bcd := by cases bcd <;> decide
  obtain ⟨_, _, hmod⟩ := loadedCount_bounds hv
  rw [← countValue_mod_two bcd v, hmod, Nat.mod_mod_of_dvd _ hcycle]

end Sys2Proof.Machine
end

section
/-!
SUPPORT. The counting rules of the six modes as record updates (R181 to R200).
-/

namespace Sys2Proof.Machine

/-! Modes 0, 1, 4 and 5. -/

/-- Mode 0 with the gate HIGH (R181). -/
theorem Chan.countMode0_of_high {ch : Chan} (h : ch.gate = .high) :
    ch.countMode0 = { ch with
      countingElement := dec ch.countingElement ch.bcd,
      output := if dec ch.countingElement ch.bcd = 0 then .high else ch.output } := by
  unfold Chan.countMode0
  by_cases hz : dec ch.countingElement ch.bcd = 0#16 <;> simp [h, hz, atZero, Chan.decBy]

/-- Mode 1 whatever the gate (R184). -/
theorem Chan.countMode1_eq (ch : Chan) :
    ch.countMode1 = { ch with
      countingElement := dec ch.countingElement ch.bcd,
      output := if dec ch.countingElement ch.bcd = 0 ∧ ch.armed = true then .high else ch.output } := by
  unfold Chan.countMode1
  by_cases hz : dec ch.countingElement ch.bcd = 0#16 <;> by_cases ha : ch.armed = true <;>
    simp [hz, ha, atZero, Chan.decBy]

/-- Mode 4 with the gate HIGH is the strobe rule of mode 5 (R198, R200). -/
theorem Chan.countMode4_of_high {ch : Chan} (h : ch.gate = .high) : ch.countMode4 = ch.countMode5 := by
  rw [Chan.countMode4, h, Chan.countMode5]

theorem Chan.countMode0_of_low {ch : Chan} (h : ch.gate = .low) : ch.countMode0 = ch := by
  obtain ⟨h0, _⟩ := ch.gatedModes_low .early h
  exact h0

theorem Chan.countMode2_of_low {ch : Chan} (h : ch.gate = .low) : ch.countMode2 = ch := by
  obtain ⟨_, h2, _⟩ := ch.gatedModes_low .early h
  exact h2

theorem Chan.countMode3_of_low (v : Variant) {ch : Chan} (h : ch.gate = .low) : ch.countMode3 v = ch := by
  obtain ⟨_, _, h3, _⟩ := ch.gatedModes_low v h
  exact h3

theorem Chan.countMode4_of_low {ch : Chan} (h : ch.gate = .low) : ch.countMode4 = ch := by
  obtain ⟨_, _, _, h4⟩ := ch.gatedModes_low .early h
  exact h4

/-- Settles O38: the gated decrement of mode 0 and its terminal test. -/
theorem modeZeroCountsAndRaisesOutputAtZero : Obligations.ModeZeroCountsAndRaisesOutputAtZero := by
  refine fun c s => ⟨s.update c Chan.countMode0, exec_countModeInstr c .mode0 s, s.update_sameBut c _,
    fun h => State.update_eq_self (Chan.countMode0_of_low h), fun h hne => ?_, fun h hz => ?_⟩
  · rw [State.chan_update_same, Chan.countMode0_of_high h, if_neg hne]
  · rw [State.chan_update_same, Chan.countMode0_of_high h, if_pos hz, hz]

/-- Settles O39: the decrement of mode 1, its terminal test and the armed flag. -/
theorem modeOneCountsWhateverTheGate : Obligations.ModeOneCountsWhateverTheGate := by
  refine fun c s => ⟨s.update c Chan.countMode1, exec_countModeInstr c .mode1 s, s.update_sameBut c _,
    fun h => ?_, fun h => ?_⟩
  · rw [State.chan_update_same, Chan.countMode1_eq, if_neg h]
  · rw [State.chan_update_same, Chan.countMode1_eq, if_pos h, h.1]

/-- Settles O40: mode 2 below, at and above its terminal value. -/
theorem modeTwoPulsesLowAtOne : Obligations.ModeTwoPulsesLowAtOne := by
  refine fun c s => ⟨s.update c Chan.countMode2, exec_countModeInstr c .mode2 s, s.update_sameBut c _,
    fun h => State.update_eq_self (Chan.countMode2_of_low h), fun h hne => ?_, fun h hone => ?_⟩
  · rw [State.chan_update_same, Chan.countMode2_of_ne_one h hne]
  · rw [State.chan_update_same, Chan.countMode2_of_eq_one h hone]

/-- Settles O43: the strobe rule, and the gate of mode 4. -/
theorem strobeModesPullLowOnZeroOnly : Obligations.StrobeModesPullLowOnZeroOnly := by
  refine fun c s => ⟨s.update c Chan.countMode4, s.update c Chan.countMode5, exec_countModeInstr c .mode4 s,
    s.update_sameBut c _, exec_countModeInstr c .mode5 s, s.update_sameBut c _,
    fun h => State.update_eq_self (Chan.countMode4_of_low h),
    fun h => congrArg (s.setChan c) (Chan.countMode4_of_high h), fun hz => ?_, fun hne => ?_⟩
  · rw [State.chan_update_same, Chan.countMode5, Chan.strobe_eq, if_pos hz, hz]
  · rw [State.chan_update_same, Chan.countMode5, Chan.strobe_eq, if_neg hne]

/-! Mode 3. -/

/-- The step of a square wave (R190): `k` decrements, and at zero the toggle with the reload. -/
def Chan.squareStep (k : Nat) (ch : Chan) : Chan :=
  if decK k ch.countingElement ch.bcd = 0 then ch.toggleReload
  else { ch with countingElement := decK k ch.countingElement ch.bcd }

theorem Chan.squareStep_of_zero {k : Nat} {ch : Chan} (h : decK k ch.countingElement ch.bcd = 0) :
    ch.squareStep k = ch.toggleReload :=
  if_pos h

theorem Chan.squareStep_of_ne_zero {k : Nat} {ch : Chan} (h : decK k ch.countingElement ch.bcd ≠ 0) :
    ch.squareStep k = { ch with countingElement := decK k ch.countingElement ch.bcd } :=
  if_neg h

theorem Chan.decBy_then_toggle (k : Nat) (ch : Chan) :
    (if atZero (ch.decBy k).countingElement then (ch.decBy k).toggleReload else ch.decBy k) = ch.squareStep k := by
  by_cases h : decK k ch.countingElement ch.bcd = 0#16
  · rw [Chan.squareStep_of_zero h, Chan.decBy_countingElement, h]
    rfl
  · rw [Chan.squareStep_of_ne_zero h, Chan.decBy_countingElement, if_neg (by simpa [atZero] using h)]
    rfl

/-- An even count steps by two on both variants (R190). -/
theorem Chan.countMode3_of_even (v : Variant) {ch : Chan} (hg : ch.gate = .high)
    (hcount : isOdd ch.countRegister = false) : ch.countMode3 v = ch.squareStep 2 := by
  rw [← Chan.decBy_then_toggle]
  simp only [Chan.countMode3, hg, hcount]
  rfl

/-- An odd count on `Early` (R191). -/
theorem Chan.countMode3_of_odd_early {ch : Chan} (hg : ch.gate = .high) (hcount : isOdd ch.countRegister = true) :
    ch.countMode3 .early = ch.squareStep ch.earlyStep := by
  rw [← Chan.decBy_then_toggle, Chan.countMode3, hg, hcount]
  rfl

/-- An odd count on `Late` with the output LOW (R192). -/
theorem Chan.countMode3_of_odd_late_low {ch : Chan} (hg : ch.gate = .high) (hcount : isOdd ch.countRegister = true)
    (hout : ch.output = .low) : ch.countMode3 .late = ch.squareStep 2 := by
  have hrule : ch.countMode3 .late = ch.mode3OddLate := by
    rw [Chan.countMode3, hg, hcount]
    rfl
  rw [hrule, ← Chan.decBy_then_toggle, Chan.mode3OddLate, hout]

/-- An odd count on `Late` with the output HIGH (R192): the toggle comes one tick after zero. -/
theorem Chan.countMode3_of_odd_late_high {ch : Chan} (hg : ch.gate = .high) (hcount : isOdd ch.countRegister = true)
    (hout : ch.output = .high) :
    ch.countMode3 .late = if ch.countingElement = 0 then ch.toggleReload else ch.decBy 2 := by
  have hrule : ch.countMode3 .late = ch.mode3OddLate := by
    rw [Chan.countMode3, hg, hcount]
    rfl
  rw [hrule]
  simp only [Chan.mode3OddLate, hout, atZero, beq_iff_eq]

/-- What a tick of mode 3 can be: nothing, a square step, or one of the two ticks of the high half on `Late`. -/
theorem Chan.countMode3_cases (v : Variant) (ch : Chan) :
    (ch.gate = .low ∧ ch.countMode3 v = ch) ∨
    (ch.gate = .high ∧ isOdd ch.countRegister = false ∧ ch.countMode3 v = ch.squareStep 2) ∨
    (ch.gate = .high ∧ isOdd ch.countRegister = true ∧ v = .early ∧ ch.countMode3 v = ch.squareStep ch.earlyStep) ∨
    (ch.gate = .high ∧ isOdd ch.countRegister = true ∧ v = .late ∧ ch.output = .low ∧
      ch.countMode3 v = ch.squareStep 2) ∨
    (ch.gate = .high ∧ isOdd ch.countRegister = true ∧ v = .late ∧ ch.output = .high ∧
      ch.countMode3 v = if ch.countingElement = 0 then ch.toggleReload else ch.decBy 2) := by
  cases hg : ch.gate with
  | low => exact .inl ⟨rfl, Chan.countMode3_of_low v hg⟩
  | high =>
    cases hcount : isOdd ch.countRegister with
    | false => exact .inr (.inl ⟨rfl, rfl, Chan.countMode3_of_even v hg hcount⟩)
    | true =>
      cases v with
      | early => exact .inr (.inr (.inl ⟨rfl, rfl, rfl, Chan.countMode3_of_odd_early hg hcount⟩))
      | late =>
        cases hout : ch.output with
        | low => exact .inr (.inr (.inr (.inl ⟨rfl, rfl, rfl, rfl, Chan.countMode3_of_odd_late_low hg hcount hout⟩)))
        | high =>
          exact .inr (.inr (.inr (.inr ⟨rfl, rfl, rfl, rfl, Chan.countMode3_of_odd_late_high hg hcount hout⟩)))

/-- The step of the odd rule on `Early` as the iterated decrement (R191). -/
theorem Chan.decK_earlyStep (ch : Chan) (v : Count) (bcd : Bool) :
    decK ch.earlyStep v bcd =
      if isOdd ch.countingElement = true then
        (if ch.output = .high then dec v bcd else dec (dec (dec v bcd) bcd) bcd)
      else dec (dec v bcd) bcd := by
  unfold Chan.earlyStep
  split
  · cases ch.output <;> rfl
  · rfl

/-- Settles O42: one square step for each parity, variant and level, and the late toggle of `Late`. -/
theorem modeThreeStepsByParityAndVariant : Obligations.ModeThreeStepsByParityAndVariant := by
  intro c s
  refine ⟨s.update c (Chan.countMode3 s.params.variant), exec_countModeInstr c .mode3 s, s.update_sameBut c _,
    fun h => State.update_eq_self (Chan.countMode3_of_low _ h), fun hg heven => ?even, fun hg hodd hv => ?early,
    fun hg hodd hv => ⟨fun hout => ?lateLow, fun hout hz => ?lateZero, fun hout hz => ?lateHigh⟩⟩ <;>
    rw [State.chan_update_same]
  case even =>
    rw [Chan.countMode3_of_even _ hg heven]
    rfl
  case early =>
    rw [hv, Chan.countMode3_of_odd_early hg hodd, Chan.squareStep, Chan.decK_earlyStep]
    rfl
  case lateLow =>
    rw [hv, Chan.countMode3_of_odd_late_low hg hodd hout]
    rfl
  case lateZero =>
    rw [hv, Chan.countMode3_of_odd_late_high hg hodd hout, if_pos hz, Chan.toggleReload, hout]
    rfl
  case lateHigh =>
    rw [hv, Chan.countMode3_of_odd_late_high hg hodd hout, if_neg hz]
    rfl

/-! Mode 4 on a running channel (R197). -/

/-- A write that is not the first of two bytes completes the load of a channel with a new count register (R101 to
R103). -/
theorem Chan.writeByte_completes (b : Byte) {ch : Chan} (h : ch.access ≠ .lsbMsb ∨ ch.loadState = .secondByte) :
    ∃ r l, ch.writeByte b = Chan.completeLoad { ch with countRegister := r, loadState := l } := by
  rcases ch.writeByte_cases b with ⟨_, hw⟩ | ⟨_, hw⟩ | ⟨ha, hl, _⟩ | ⟨_, _, hw⟩
  · exact ⟨_, _, hw⟩
  · exact ⟨_, _, hw⟩
  · exact (h.elim (absurd ha) fun hl' => nomatch hl.symm.trans hl')
  · exact ⟨_, _, hw⟩

/-- In modes 0 and 4 every load completion asks for a load cycle (R105, R106). -/
theorem Chan.completeLoad_of_software {ch : Chan} (h : ch.mode = .mode0 ∨ ch.mode = .mode4) :
    ch.completeLoad.countingState = .waitingForLoadCycle := by
  have hnot : ¬ (ch.mode = .mode1 ∨ ch.mode = .mode5) := by
    rcases h with h | h <;> simp [h]
  rcases ch.completeLoad_cases with ⟨_, hload⟩ | ⟨hphase, _⟩
  · rw [hload, Chan.firstLoad_of_not_oneShot hnot]
  · rw [Chan.completeLoad_of_restarted hphase h]

theorem Chan.writeByte_mode (b : Byte) (ch : Chan) : (ch.writeByte b).mode = ch.mode := by
  rw [Chan.writeByte_frame]

theorem Chan.modeRule_of_mode4 (v : Variant) {ch : Chan} (h : ch.mode = .mode4) : ch.modeRule v = ch.countMode4 := by
  rw [Chan.modeRule, h]

/-- Settles O44: a tick of a counting channel is the strobe rule; a write that completes a load leaves a load cycle
pending in mode 4, on a first load and on a later one, and the next tick runs it. -/
theorem softwareTriggeredStrobe : Obligations.SoftwareTriggeredStrobe := by
  intro b c s hmode
  have hrule (hcounting : (s.chan c).countingState = .counting) : s.tickAll.chan c = (s.chan c).countMode4 := by
    rw [State.tickAll_chan, Chan.tick_of_counting _ hcounting, Chan.modeRule_of_mode4 _ hmode]
  refine ⟨fun hcounting hg => ⟨s.tickAll, exec_tick s, ?_⟩, fun hcounting hg => ⟨s.tickAll, exec_tick s, ?_⟩, fun h => ?_⟩
  · rw [hrule hcounting, Chan.countMode4_of_high hg, Chan.countMode5, Chan.strobe_eq]
    refine ⟨hcounting, rfl, ?_⟩
    simp
  · rw [hrule hcounting, Chan.countMode4_of_low hg]
  · obtain ⟨r, l, hwrite⟩ := Chan.writeByte_completes b h
    have hpending : ((s.writeData c b).chan c).countingState = .waitingForLoadCycle := by
      rw [State.writeData_chan_same, hwrite]
      exact Chan.completeLoad_of_software (.inr hmode)
    refine ⟨s.writeData c b, (s.writeData c b).tickAll, exec_writeInstr b c s, exec_tick _, ?_⟩
    rw [State.tickAll_chan, Chan.tick_of_waitingForLoadCycle _ hpending]
    refine ⟨rfl, rfl, ?_⟩
    rw [Chan.loadCycle_output, State.writeData_chan_same, Chan.writeByte_mode, hmode]
    rfl

end Sys2Proof.Machine
end

section
/-!
SUPPORT. Runs of clock pulses: the ticks of one channel, and a list of TICK events as the ticks of each channel (R160).
-/

namespace Sys2Proof.Machine

/-! The ticks of one channel. -/

theorem Chan.ticks_zero (p : Params) (ch : Chan) : Chan.ticks p 0 ch = ch := rfl

theorem Chan.ticks_succ (p : Params) (n : Nat) (ch : Chan) :
    Chan.ticks p (n + 1) ch = Chan.ticks p n (ch.tick p) := rfl

theorem Chan.ticks_add (p : Params) (m n : Nat) (ch : Chan) :
    Chan.ticks p (m + n) ch = Chan.ticks p n (Chan.ticks p m ch) := by
  induction m generalizing ch with
  | zero => rw [Nat.zero_add, Chan.ticks_zero]
  | succ m ih => rw [Nat.succ_add, Chan.ticks_succ, Chan.ticks_succ, ih]

theorem Chan.ticks_succ_right (p : Params) (n : Nat) (ch : Chan) :
    Chan.ticks p (n + 1) ch = (Chan.ticks p n ch).tick p :=
  Chan.ticks_add p n 1 ch

/-- What every tick keeps, any number of ticks keeps. -/
theorem Chan.ticks_induction {p : Params} {P : Chan → Prop} (hstep : ∀ ch, P ch → P (ch.tick p)) (n : Nat) {ch : Chan}
    (h : P ch) : P (Chan.ticks p n ch) := by
  induction n generalizing ch with
  | zero => exact h
  | succ n ih => exact ih (hstep ch h)

/-- A closed form that follows the ticks for `n` steps is the channel after `n` ticks. -/
theorem Chan.ticks_eq_of_steps {p : Params} {f : Nat → Chan} {n : Nat} (hstep : ∀ k < n, (f k).tick p = f (k + 1)) :
    Chan.ticks p n (f 0) = f n := by
  induction n with
  | zero => rfl
  | succ n ih =>
    rw [Chan.ticks_succ_right, ih fun k hk => hstep k (Nat.lt_succ_of_lt hk), hstep n (Nat.lt_succ_self n)]

/-- An idle channel stays as it is (R165). -/
theorem Chan.ticks_of_idle (p : Params) (n : Nat) {ch : Chan}
    (h : ch.countingState = .waitingForReload ∨ ch.countingState = .waitingForGate) : Chan.ticks p n ch = ch := by
  induction n with
  | zero => rfl
  | succ n ih => rw [Chan.ticks_succ, Chan.tick_of_idle p h, ih]

/-- The fields that clock pulses alone can write (R30). -/
theorem Chan.ticks_frame (p : Params) (n : Nat) (ch : Chan) :
    Chan.ticks p n ch = { ch with
      countingElement := (Chan.ticks p n ch).countingElement, output := (Chan.ticks p n ch).output,
      ceUndefined := (Chan.ticks p n ch).ceUndefined, countingState := (Chan.ticks p n ch).countingState } := by
  induction n with
  | zero => rfl
  | succ n ih =>
    rw [Chan.ticks_succ_right, Chan.tick_frame]
    generalize (Chan.ticks p n ch).tick p = r
    rw [ih]

/-! Lists of events. -/

theorem execAll_cons {i : Instr} {s t : State} (h : exec i s = .next t) (is : List Instr) :
    execAll (i :: is) s = execAll is t := by
  rw [execAll, h]

theorem execAll_append {is js : List Instr} {s t : State} (h : execAll is s = .next t) :
    execAll (is ++ js) s = execAll js t := by
  induction is generalizing s with
  | nil =>
    obtain rfl := next_unique rfl h
    rfl
  | cons i is ih =>
    rw [List.cons_append]
    cases hexec : exec i s with
    | next u =>
      rw [execAll_cons hexec] at h ⊢
      exact ih h
    | fault f => nomatch f
    | refused r =>
      rw [execAll, hexec] at h
      nomatch h

/-- Clock pulses complete, and give every channel its own ticks. -/
theorem execAll_ticks (n : Nat) (s : State) :
    ∃ t, execAll (List.replicate n .tick) s = .next t ∧ ∀ c, t.chan c = Chan.ticks s.params n (s.chan c) := by
  induction n generalizing s with
  | zero => exact ⟨s, rfl, fun _ => rfl⟩
  | succ n ih =>
    obtain ⟨t, hrun, hchan⟩ := ih s.tickAll
    refine ⟨t, ?_, fun c => ?_⟩
    · rw [List.replicate_succ, execAll_cons (exec_tick s), hrun]
    · rw [hchan, State.tickAll_params, State.tickAll_chan, Chan.ticks_succ]

/-- Clock pulses and then a data read return the byte of the channel after its ticks. -/
theorem execAll_ticks_read (n : Nat) (c : Channel) (s : State) :
    ∃ t, execAll (List.replicate n .tick ++ [readInstr c]) s = .next t ∧
      t.dataOut = some (Chan.ticks s.params n (s.chan c)).readByte ∧
      t.chan c = (Chan.ticks s.params n (s.chan c)).afterRead := by
  obtain ⟨u, hrun, hchan⟩ := execAll_ticks n s
  refine ⟨u.readData c, ?_, ?_, ?_⟩
  · rw [execAll_append hrun, execAll_cons (exec_readInstr c u)]
    rfl
  · rw [State.readData_dataOut, hchan]
  · rw [State.readData_chan_same, hchan]

/-! The latched read (R51). -/

/-- A channel with a two-byte read under way: the snapshot `v` is held and the sequencer is at `r`. -/
structure Chan.HoldsSnapshot (v : Count) (r : ByteState) (ch : Chan) : Prop where
  access : ch.access = .lsbMsb
  latched : ch.latched = true
  snapshot : ch.countLatch = v
  sequencer : ch.readState = r

/-- No number of ticks touches a snapshot or a read under way. -/
theorem Chan.HoldsSnapshot.ticks {v : Count} {r : ByteState} {ch : Chan} (h : ch.HoldsSnapshot v r) (p : Params)
    (n : Nat) : (Chan.ticks p n ch).HoldsSnapshot v r := by
  rw [Chan.ticks_frame]
  exact ⟨h.access, h.latched, h.snapshot, h.sequencer⟩

theorem Chan.HoldsSnapshot.readSource {v : Count} {r : ByteState} {ch : Chan} (h : ch.HoldsSnapshot v r) :
    ch.readSource = v := by
  rw [Chan.readSource, h.latched, if_pos rfl, h.snapshot]

theorem highByte_append_lowByte (v : Count) : highByte v ++ lowByte v = v := by
  apply BitVec.eq_of_toNat_eq
  rw [append_toNat]
  simp only [highByte, lowByte, BitVec.extractLsb'_toNat, Nat.shiftRight_eq_div_pow]
  omega

/-- Settles O21: the latch takes the snapshot; the ticks keep it; the first read returns its low byte and keeps it, the
second its high byte and releases it. -/
theorem latchedReadIsUntornByTicks : Obligations.LatchedReadIsUntornByTicks := by
  intro c j k s haccess hread hfree
  let v := (s.chan c).countingElement
  have hlatch : ((s.latchCommand c).chan c).HoldsSnapshot v .firstByte := by
    rw [State.latchCommand_chan, Chan.latch_of_not_latched hfree]
    exact ⟨haccess, rfl, rfl, hread⟩
  obtain ⟨t₁, hrun₁, hout₁, hchan₁⟩ := execAll_ticks_read j c (s.latchCommand c)
  obtain ⟨t₂, hrun₂, hout₂, hchan₂⟩ := execAll_ticks_read k c t₁
  have hfirst := hlatch.ticks (s.latchCommand c).params j
  obtain ⟨hbyte₁, hafter₁⟩ := Chan.afterRead_of_firstByte hfirst.access hfirst.sequencer
  have hheld : (t₁.chan c).HoldsSnapshot v .secondByte := by
    rw [hchan₁, hafter₁]
    exact ⟨hfirst.access, hfirst.latched, hfirst.snapshot, rfl⟩
  have hsecond := hheld.ticks t₁.params k
  obtain ⟨hbyte₂, hafter₂⟩ := Chan.afterRead_of_secondByte hsecond.access hsecond.sequencer
  rw [hbyte₁, hfirst.readSource] at hout₁
  rw [hbyte₂, hsecond.readSource] at hout₂
  refine ⟨t₁, t₂, ?_, hrun₂, ⟨lowByte v, highByte v, hout₁, hout₂, highByte_append_lowByte v⟩, hheld.latched, ?_, ?_⟩
  · rw [execAll_cons (exec_latchInstr c s), hrun₁]
  · rw [hchan₂, hafter₂]
  · rw [hchan₂, hafter₂]

/-! Mode 0 between two bytes (R242). -/

/-- Settles O28: the first byte leaves the channel waiting for a reload, where no tick changes it. -/
theorem modeZeroIsFrozenBetweenTheTwoBytes : Obligations.ModeZeroIsFrozenBetweenTheTwoBytes := by
  intro b c n s haccess hload hmode
  have hwrite := s.writeData_chan_same c b
  rw [Chan.writeByte_of_firstByte b haccess hload, Chan.writeFirstByte_of_mode0 b hmode] at hwrite
  obtain ⟨u, hrun, hchan⟩ := execAll_ticks n (s.writeData c b)
  have hfrozen : u.chan c = (s.writeData c b).chan c := by
    rw [hchan, Chan.ticks_of_idle]
    left
    rw [hwrite]
  refine ⟨s.writeData c b, u, exec_writeInstr b c s, hrun, hfrozen, ?_, ?_⟩
  · rw [hfrozen, hwrite]
  · rw [hfrozen, hwrite]

/-! The undefined window of modes 1 and 5 (R243). -/

/-- What a channel of mode 1 or 5 is between its first tick after a load and its trigger. -/
def Chan.AwaitsTrigger (ch : Chan) : Prop :=
  (ch.mode = .mode1 ∨ ch.mode = .mode5) ∧ ch.countingState = .waitingForLoadTrigger ∧ ch.ceUndefined = true

theorem Chan.modeRule_frame_of_not_mode2 (v : Variant) {ch : Chan} (h : ch.mode ≠ .mode2) :
    ch.modeRule v = { ch with
      countingElement := (ch.modeRule v).countingElement, output := (ch.modeRule v).output } :=
  (ch.modeRule_frame v).resolve_right fun hmode2 => h hmode2.1

/-- In the window the counter runs from the placeholder and nothing else changes but the output. -/
theorem Chan.AwaitsTrigger.tick {ch : Chan} (h : ch.AwaitsTrigger) (p : Params) : (ch.tick p).AwaitsTrigger := by
  obtain ⟨hmode, hstate, hundef⟩ := h
  have hnot2 : ch.mode ≠ .mode2 := by
    rcases hmode with h | h <;> simp [h]
  rw [Chan.tick_of_untriggered p hstate (by simp [hundef]), Chan.modeRule_frame_of_not_mode2 _ hnot2]
  exact ⟨hmode, hstate, hundef⟩

/-- Settles O37: the first tick is the placeholder load; the window lasts over any number of ticks; a rising edge asks for
a load cycle, which closes it. -/
theorem undefinedWindowLastsUntilTheTrigger : Obligations.UndefinedWindowLastsUntilTheTrigger := by
  intro p n ch hmode hstate harmed hundef hgate
  have hfirst : ch.tick p = ch.placeholderLoad p.placeholder :=
    Chan.tick_of_first_untriggered p hstate harmed hundef
  have hwindow : (Chan.ticks p (n + 1) ch).AwaitsTrigger := by
    rw [Chan.ticks_succ, hfirst]
    exact Chan.ticks_induction (fun _ h => h.tick p) n ⟨hmode, hstate, rfl⟩
  have hframe := Chan.ticks_frame p (n + 1) ch
  obtain ⟨hmode', hstate', hundef'⟩ := hwindow
  generalize Chan.ticks p (n + 1) ch = w at *
  have hgate' : w.gate = .low := by rw [hframe, ← hgate]
  have hnot : ¬ (w.mode = .mode0 ∨ w.mode = .mode4) := by
    rcases hmode' with h | h <;> simp [h]
  have htrigger : w.setGate .high = { w with gate := .high, countingState := .waitingForLoadCycle } :=
    (Chan.setGate_high_of_low hgate' (by rw [hstate']; simp)).trans (Chan.risingEdge_of_retriggered hnot)
  refine ⟨hundef', hstate', ?_, ?_, ?_, ?_⟩
  · rw [Chan.ticks_succ, Chan.ticks_zero, hfirst, Chan.placeholderLoad_countingElement]
  · rw [htrigger]
    exact hundef'
  · rw [htrigger, Chan.tick_of_waitingForLoadCycle p rfl, Chan.loadCycle_ceUndefined]
  · rw [htrigger, Chan.tick_of_waitingForLoadCycle p rfl, Chan.loadCycle_countingElement, hframe]

end Sys2Proof.Machine
end

section
/-!
SUPPORT. The snapshot register (R13, R123, R127, R233): the operations that neither read nor write it, how long a
snapshot stays, and that without a snapshot its value cannot be observed.
-/

namespace Sys2Proof.Machine

/-- The channel with another value in the snapshot register. -/
def Chan.withLatch (x : Count) (ch : Chan) : Chan :=
  { ch with countLatch := x }

/-- The operation neither reads nor writes the snapshot register, and keeps the flag that says whether it counts. -/
def IgnoresLatch (f : Chan → Chan) : Prop :=
  ∀ (ch : Chan) (x : Count), f (ch.withLatch x) = (f ch).withLatch x ∧ (f ch).latched = ch.latched

theorem IgnoresLatch.countLatch {f : Chan → Chan} (hf : IgnoresLatch f) (ch : Chan) :
    (f ch).countLatch = ch.countLatch := by
  have h : f ch = (f ch).withLatch ch.countLatch := (hf ch ch.countLatch).1
  rw [h, Chan.withLatch]

theorem ignoresLatch_id : IgnoresLatch id := fun _ _ => ⟨rfl, rfl⟩

theorem ignoresLatch_loadCycle : IgnoresLatch Chan.loadCycle := fun _ _ => ⟨rfl, rfl⟩

theorem ignoresLatch_placeholderLoad (v : Count) : IgnoresLatch (Chan.placeholderLoad v) := fun _ _ => ⟨rfl, rfl⟩

/-! The count load. -/

theorem ignoresLatch_completeLoad : IgnoresLatch Chan.completeLoad := by
  intro ch x
  refine ⟨?_, by rw [Chan.completeLoad_frame]⟩
  cases hp : ch.loadPhase with
  | initial =>
    rw [Chan.completeLoad_of_initial hp, Chan.completeLoad_of_initial (ch := ch.withLatch x) hp,
      Chan.firstLoad_eq, Chan.firstLoad_eq]
    rfl
  | subsequent =>
    rw [Chan.completeLoad_of_subsequent hp, Chan.completeLoad_of_subsequent (ch := ch.withLatch x) hp,
      Chan.subsequentLoad_eq, Chan.subsequentLoad_eq]
    rfl

theorem ignoresLatch_writeByte (b : Byte) : IgnoresLatch (Chan.writeByte b) := by
  intro ch x
  refine ⟨?_, by rw [Chan.writeByte_frame]⟩
  cases ha : ch.access with
  | lsb =>
    rw [Chan.writeByte_of_lsb b ha, Chan.writeByte_of_lsb (ch := ch.withLatch x) b ha]
    rw [← (ignoresLatch_completeLoad _ x).1]
    rfl
  | msb =>
    rw [Chan.writeByte_of_msb b ha, Chan.writeByte_of_msb (ch := ch.withLatch x) b ha]
    rw [← (ignoresLatch_completeLoad _ x).1]
    rfl
  | lsbMsb =>
    cases hl : ch.loadState with
    | firstByte =>
      rw [Chan.writeByte_of_firstByte b ha hl, Chan.writeByte_of_firstByte (ch := ch.withLatch x) b ha hl,
        Chan.writeFirstByte_eq, Chan.writeFirstByte_eq]
      rfl
    | secondByte =>
      rw [Chan.writeByte_of_secondByte b ha hl, Chan.writeByte_of_secondByte (ch := ch.withLatch x) b ha hl]
      rw [← (ignoresLatch_completeLoad _ x).1]
      rfl

/-! The gate. -/

theorem ignoresLatch_setGate (g : Level) : IgnoresLatch (Chan.setGate g) := by
  intro ch x
  refine ⟨?_, by rw [Chan.setGate_frame]⟩
  rcases ch.setGate_cases g with ⟨hs, hg, rfl, h⟩ | ⟨hs, hg, rfl, h⟩ | ⟨hs | hg, h⟩
  · rw [h, Chan.setGate_high_of_low (ch := ch.withLatch x) hg hs, Chan.risingEdge_eq, Chan.risingEdge_eq]
    rfl
  · rw [h, Chan.setGate_low_of_high (ch := ch.withLatch x) hg hs, Chan.fallingEdge_eq, Chan.fallingEdge_eq]
    rfl
  · rw [h, Chan.setGate_of_waitingForReload (ch := ch.withLatch x) g hs]
    rfl
  · rw [Chan.setGate_of_same hg, Chan.setGate_of_same (ch := ch.withLatch x) hg]

/-! The counting rules and the tick. -/

theorem countMode0_withLatch (ch : Chan) (x : Count) : (ch.withLatch x).countMode0 = ch.countMode0.withLatch x := by
  cases hg : ch.gate with
  | low => rw [Chan.countMode0_of_low hg, Chan.countMode0_of_low (ch := ch.withLatch x) hg]
  | high =>
    rw [Chan.countMode0_of_high hg, Chan.countMode0_of_high (ch := ch.withLatch x) hg]
    rfl

theorem countMode1_withLatch (ch : Chan) (x : Count) : (ch.withLatch x).countMode1 = ch.countMode1.withLatch x := by
  rw [Chan.countMode1_eq, Chan.countMode1_eq]
  rfl

theorem countMode2_withLatch (ch : Chan) (x : Count) : (ch.withLatch x).countMode2 = ch.countMode2.withLatch x := by
  rcases ch.countMode2_cases with ⟨hg, h⟩ | ⟨hg, hne, h⟩ | ⟨hg, hone, h⟩
  · rw [h, Chan.countMode2_of_low (ch := ch.withLatch x) hg]
  · rw [h, Chan.countMode2_of_ne_one (ch := ch.withLatch x) hg hne]
    rfl
  · rw [h, Chan.countMode2_of_eq_one (ch := ch.withLatch x) hg hone]
    rfl

theorem squareStep_withLatch (k : Nat) (ch : Chan) (x : Count) :
    (ch.withLatch x).squareStep k = (ch.squareStep k).withLatch x := by
  by_cases h : decK k ch.countingElement ch.bcd = 0
  · rw [Chan.squareStep_of_zero h, Chan.squareStep_of_zero (ch := ch.withLatch x) h]
    rfl
  · rw [Chan.squareStep_of_ne_zero h, Chan.squareStep_of_ne_zero (ch := ch.withLatch x) h]
    rfl

theorem countMode3_withLatch (v : Variant) (ch : Chan) (x : Count) :
    (ch.withLatch x).countMode3 v = (ch.countMode3 v).withLatch x := by
  rcases ch.countMode3_cases v with ⟨hg, h⟩ | ⟨hg, hc, h⟩ | ⟨hg, hc, rfl, h⟩ | ⟨hg, hc, rfl, ho, h⟩ | ⟨hg, hc, rfl, ho, h⟩ <;>
    rw [h]
  · rw [Chan.countMode3_of_low (ch := ch.withLatch x) v hg]
  · rw [Chan.countMode3_of_even (ch := ch.withLatch x) v hg hc, squareStep_withLatch]
  · rw [Chan.countMode3_of_odd_early (ch := ch.withLatch x) hg hc, squareStep_withLatch]
    rfl
  · rw [Chan.countMode3_of_odd_late_low (ch := ch.withLatch x) hg hc ho, squareStep_withLatch]
  · rw [Chan.countMode3_of_odd_late_high (ch := ch.withLatch x) hg hc ho]
    exact (apply_ite (Chan.withLatch x) (ch.countingElement = 0) ch.toggleReload (ch.decBy 2)).symm

theorem countMode4_withLatch (ch : Chan) (x : Count) : (ch.withLatch x).countMode4 = ch.countMode4.withLatch x := by
  cases hg : ch.gate with
  | low => rw [Chan.countMode4_of_low hg, Chan.countMode4_of_low (ch := ch.withLatch x) hg]
  | high =>
    rw [Chan.countMode4_of_high hg, Chan.countMode4_of_high (ch := ch.withLatch x) hg, Chan.countMode5,
      Chan.countMode5, Chan.strobe_eq, Chan.strobe_eq]
    rfl

theorem countMode_withLatch (v : Variant) (m : Mode) (ch : Chan) (x : Count) :
    (ch.withLatch x).countMode v m = (ch.countMode v m).withLatch x := by
  cases m
  case mode0 => exact countMode0_withLatch ch x
  case mode1 => exact countMode1_withLatch ch x
  case mode2 => exact countMode2_withLatch ch x
  case mode3 => exact countMode3_withLatch v ch x
  case mode4 => exact countMode4_withLatch ch x
  case mode5 =>
    rw [Chan.countMode, Chan.countMode5, Chan.countMode5, Chan.strobe_eq, Chan.strobe_eq]
    rfl

theorem countMode_latched (v : Variant) (m : Mode) (ch : Chan) : (ch.countMode v m).latched = ch.latched := by
  cases m
  case mode0 => rw [Chan.countMode, Chan.countMode0_frame]
  case mode1 => rw [Chan.countMode, Chan.countMode1_frame]
  case mode2 => rcases ch.countMode2_cases with ⟨_, h⟩ | ⟨_, _, h⟩ | ⟨_, _, h⟩ <;> rw [Chan.countMode, h]
  case mode3 => rw [Chan.countMode, Chan.countMode3_frame]
  case mode4 => rw [Chan.countMode, Chan.countMode4_frame]
  case mode5 => rw [Chan.countMode, Chan.countMode5_frame]

theorem ignoresLatch_countMode (v : Variant) (m : Mode) : IgnoresLatch (Chan.countMode v m) :=
  fun ch x => ⟨countMode_withLatch v m ch x, countMode_latched v m ch⟩

theorem ignoresLatch_tick (p : Params) : IgnoresLatch (Chan.tick p) := by
  intro ch x
  refine ⟨?_, by rw [Chan.tick_frame]⟩
  have hrule : (ch.withLatch x).modeRule p.variant = (ch.modeRule p.variant).withLatch x := by
    rw [Chan.modeRule_eq_countMode, Chan.modeRule_eq_countMode]
    exact countMode_withLatch p.variant ch.mode ch x
  rcases ch.tick_cases p with ⟨hs, h⟩ | ⟨hs, ha, hu, h⟩ | ⟨hs | hs | ⟨hs, hw⟩, h⟩ | ⟨hs, h⟩ <;> rw [h]
  · rw [Chan.tick_of_waitingForLoadCycle (ch := ch.withLatch x) p hs]
    rfl
  · rw [Chan.tick_of_first_untriggered (ch := ch.withLatch x) p hs ha hu]
    rfl
  · rw [Chan.tick_of_counting (ch := ch.withLatch x) p hs, hrule]
  · rw [Chan.tick_of_countingTriggered (ch := ch.withLatch x) p hs, hrule]
  · rw [Chan.tick_of_untriggered (ch := ch.withLatch x) p hs hw, hrule]
  · rw [Chan.tick_of_idle (ch := ch.withLatch x) p hs]

/-! What the effects of `exec_chan` do to a snapshot. -/

/-- An effect takes a snapshot, releases or forgets it, or ignores it. -/
theorem ChanOp.run_latch_cases (p : Params) (c : Channel) (op : ChanOp) :
    IgnoresLatch (op.run p c) ∨ op = .latch ∨ op = .read ∨ op = .reset ∨ ∃ a f d, op = .modeSet a f d := by
  cases op with
  | keep => exact .inl ignoresLatch_id
  | modeSet a f d => exact .inr (.inr (.inr (.inr ⟨a, f, d, rfl⟩)))
  | latch => exact .inr (.inl rfl)
  | read => exact .inr (.inr (.inl rfl))
  | write b => exact .inl (ignoresLatch_writeByte b)
  | setGate g => exact .inl (ignoresLatch_setGate g)
  | tick => exact .inl (ignoresLatch_tick p)
  | reset => exact .inr (.inr (.inr (.inl rfl)))
  | loadCycle => exact .inl ignoresLatch_loadCycle
  | placeholderLoad => exact .inl (ignoresLatch_placeholderLoad p.placeholder)
  | countMode m => exact .inl (ignoresLatch_countMode p.variant m)
  | completeLoad => exact .inl ignoresLatch_completeLoad

/-! Which operation has which effect, read backwards. -/

theorem Selects.eq_read {v : Variant} {c : Channel} {i : Instr} (h : Selects v c i .read) : i = readInstr c := by
  cases h
  rfl

theorem Selects.eq_reset {v : Variant} {c : Channel} {i : Instr} (h : Selects v c i .reset) : i = .reset := by
  cases h
  rfl

theorem Selects.operands {v : Variant} {c : Channel} {i : Instr} {a : Access} {f : ModeField} {d : Bool}
    (h : Selects v c i (.modeSet a f d)) : (i.atDecoder v).modesetOperands = some (c, a, f, d) := by
  cases h
  assumption

/-- Settles O22: the effect on the channel ignores the snapshot, or is a second latch, or is one of the three that end
it. -/
theorem snapshotStaysUntilReadOrReprogrammed : Obligations.SnapshotStaysUntilReadOrReprogrammed := by
  intro i c s t h hlatched
  obtain ⟨op, hsel, hop⟩ := exec_chan s.params.variant i c
  have hchan := hop s t rfl h
  rcases op.run_latch_cases s.params c with hignore | rfl | rfl | rfl | ⟨a, f, d, rfl⟩
  · left
    rw [hchan, hignore.countLatch, (hignore (s.chan c) 0).2]
    exact ⟨hlatched, rfl⟩
  · left
    rw [hchan, ChanOp.run, Chan.latch_of_latched hlatched]
    exact ⟨hlatched, rfl⟩
  · exact .inr (.inl hsel.eq_read)
  · exact .inr (.inr (.inl hsel.eq_reset))
  · exact .inr (.inr (.inr ⟨a, f, d, hsel.operands⟩))

/-! Without a snapshot the register cannot be observed. -/

theorem Chan.sameVisible_of_withLatch {a : Chan} (ha : a.latched = false) (x : Count) : a.SameVisible (a.withLatch x) :=
  .inr ⟨ha, rfl⟩

theorem Chan.SameVisible.cases {a b : Chan} (h : a.SameVisible b) :
    a = b ∨ a.latched = false ∧ ∃ x, b = a.withLatch x :=
  h.imp_right fun ⟨ha, hb⟩ => ⟨ha, b.countLatch, hb⟩

/-- Every effect takes channels that no event tells apart to such channels. -/
theorem ChanOp.run_sameVisible (p : Params) (c : Channel) (op : ChanOp) {a b : Chan} (h : a.SameVisible b) :
    (op.run p c a).SameVisible (op.run p c b) := by
  rcases h.cases with rfl | ⟨ha, x, rfl⟩
  · exact .inl rfl
  · rcases op.run_latch_cases p c with hignore | rfl | rfl | rfl | ⟨acc, f, d, rfl⟩
    · obtain ⟨hcomm, hkeep⟩ := hignore a x
      rw [hcomm]
      exact Chan.sameVisible_of_withLatch (hkeep.trans ha) x
    · left
      rw [ChanOp.run, Chan.latch_of_not_latched ha, Chan.latch_of_not_latched (ch := a.withLatch x) ha]
      rfl
    · right
      rw [ChanOp.run, Chan.afterRead_eq, Chan.afterRead_eq]
      exact ⟨by rw [ha, Bool.false_and], rfl⟩
    · exact .inl rfl
    · exact .inr ⟨rfl, rfl⟩

/-- The pins show the same, and so does a data read. -/
theorem Chan.SameVisible.output_readByte {a b : Chan} (h : a.SameVisible b) :
    a.output = b.output ∧ a.readByte = b.readByte := by
  rcases h.cases with rfl | ⟨ha, x, rfl⟩
  · exact ⟨rfl, rfl⟩
  · have hsource : (a.withLatch x).readSource = a.readSource := by
      simp only [Chan.readSource, Chan.withLatch, ha, Bool.false_eq_true, if_false]
    refine ⟨rfl, ?_⟩
    rw [Chan.readByte, Chan.readByte, hsource]
    rfl

/-- Settles O17: both runs have the same answer; each channel goes through the same effect, and a data read returns the
byte of the same source. -/
theorem staleSnapshotIsUnobservable : Obligations.StaleSnapshotIsUnobservable := by
  rintro i s₁ s₂ ⟨hparams, hinputs, hdata, hchans⟩
  have hv : s₂.params.variant = s₁.params.variant := by rw [hparams]
  rcases exec_answers s₁.params.variant i with ⟨_, hnext⟩ | ⟨_, r, hrefused⟩
  · obtain ⟨t₁, h₁⟩ := hnext s₁ rfl
    obtain ⟨t₂, h₂⟩ := hnext s₂ hv
    obtain ⟨hp₁, hi₁⟩ := exec_params_inputs h₁
    obtain ⟨hp₂, hi₂⟩ := exec_params_inputs h₂
    have hsame : ∀ c, (t₁.chan c).SameVisible (t₂.chan c) := by
      intro c
      obtain ⟨op, _, hop⟩ := exec_chan s₁.params.variant i c
      rw [hop s₁ t₁ rfl h₁, hop s₂ t₂ hv h₂, ← hparams]
      exact ChanOp.run_sameVisible s₁.params c op (hchans c)
    have hout : t₁.dataOut = t₂.dataOut := by
      rcases exec_dataOut s₁.params.variant i with ⟨c, rfl⟩ | hkept
      · obtain rfl := next_unique (exec_readInstr c s₁) h₁
        obtain rfl := next_unique (exec_readInstr c s₂) h₂
        rw [State.readData_dataOut, State.readData_dataOut, (hchans c).output_readByte.2]
      · rw [hkept s₁ t₁ rfl h₁, hkept s₂ t₂ hv h₂, hdata]
    rw [h₁, h₂]
    exact ⟨⟨by rw [hp₁, hp₂, hparams], by rw [hi₁, hi₂, hinputs], hout, hsame⟩,
      fun c => (hsame c).output_readByte.1⟩
  · rw [hrefused s₁ rfl, hrefused s₂ hv]

end Sys2Proof.Machine
end

section
/-!
SUPPORT. The invariant of one channel (R29, R26): it holds of a programmed channel, and every effect that an event can
have keeps it.
-/

namespace Sys2Proof.Machine

/-! Programmed channels. -/

/-- A channel that has just been programmed, and has no count yet, meets the invariant. -/
theorem Chan.inv_of_programmed {v : Variant} {ch : Chan} (hmask : ch.loadMask = loadMaskOf v ch.mode)
    (harmed : ch.armed = false) (hphase : ch.loadPhase = .initial) (hload : ch.loadState = .firstByte)
    (hread : ch.readState = .firstByte) (hundef : ch.ceUndefined = false)
    (hstate : ch.countingState = .waitingForReload) : ch.Inv v := by
  have hnone : ch.ArmedIffSubsequent := by
    rw [Chan.ArmedIffSubsequent, harmed, hphase]
    decide
  have heven : ch.LateSquareWaveEven v := fun _ _ h => absurd (hstate.symm.trans h) (by decide)
  refine ⟨hmask, hnone, fun _ => hstate, ?_, ?_, ?_, ⟨?_, ?_⟩, heven, ?_, ?_⟩ <;>
    simp [harmed, hload, hread, hundef, hstate]

theorem Chan.create_inv (v : Variant) (p : ChannelParams) : (Chan.create v p).Inv v :=
  Chan.inv_of_programmed rfl rfl rfl rfl rfl rfl rfl

theorem Chan.modeSet_inv (v : Variant) (a : Access) (m : Mode) (d : Bool) (ch : Chan) : (ch.modeSet v a m d).Inv v :=
  Chan.inv_of_programmed rfl rfl rfl rfl rfl rfl rfl

theorem Chan.resetWith_inv (v : Variant) (p : ChannelParams) (ch : Chan) : (ch.resetWith v p).Inv v :=
  Chan.inv_of_programmed rfl rfl rfl rfl rfl rfl rfl

theorem State.create_inv (p : Params) : (State.create p).Inv :=
  ⟨Chan.create_inv _ _, Chan.create_inv _ _, Chan.create_inv _ _⟩

/-- Settles O56: each created channel is a programmed one. -/
theorem createdInstanceMeetsInvariant : Obligations.CreatedInstanceMeetsInvariant :=
  ⟨State.create_inv, State.create_inv _⟩

/-! The clauses that later proofs take from the invariant. -/

theorem Chan.Inv.maskFits {v : Variant} {ch : Chan} (h : ch.Inv v) : ch.LoadMaskFits v := by
  obtain ⟨hmask, _⟩ := h
  exact hmask

theorem Chan.Inv.loadSecond {v : Variant} {ch : Chan} (h : ch.Inv v) :
    ch.loadState = .secondByte → ch.access = .lsbMsb := by
  obtain ⟨_, _, _, _, _, _, ⟨hload, _⟩, _⟩ := h
  exact hload

theorem Chan.Inv.lateEven {v : Variant} {ch : Chan} (h : ch.Inv v) : ch.LateSquareWaveEven v := by
  obtain ⟨_, _, _, _, _, _, _, heven, _⟩ := h
  exact heven

theorem Chan.Inv.neverTriggered {v : Variant} {ch : Chan} (h : ch.Inv v) : ch.NeverCountingTriggered := by
  obtain ⟨_, _, _, _, _, _, _, _, hnever, _⟩ := h
  exact hnever

/-- A channel that waits for nothing but its first load is the only one that is not armed (R29 item 4). -/
theorem Chan.Inv.armed_of_loaded {v : Variant} {ch : Chan} (h : ch.Inv v)
    (hs : ch.countingState ≠ .waitingForReload) : ch.armed = true := by
  obtain ⟨_, _, hunarmed, _⟩ := h
  by_contra harmed
  exact hs (hunarmed (Bool.not_eq_true _ ▸ harmed))

/-- Before its first load a channel waits for it. -/
theorem Chan.Inv.waits_of_initial {v : Variant} {ch : Chan} (h : ch.Inv v) (hp : ch.loadPhase = .initial) :
    ch.countingState = .waitingForReload := by
  by_contra hs
  have harmed := h.armed_of_loaded hs
  obtain ⟨_, hphase, _⟩ := h
  exact absurd (hp.symm.trans (hphase.mp harmed)) (by decide)

/-! Latch, read and count load. -/

theorem Chan.Inv.latch {v : Variant} {ch : Chan} (h : ch.Inv v) : ch.latch.Inv v := by
  rw [Chan.latch_eq]
  exact h

theorem Chan.Inv.afterRead {v : Variant} {ch : Chan} (h : ch.Inv v) : ch.afterRead.Inv v := by
  obtain ⟨hmask, hphase, hunarmed, htrigger, hgate, hundef, ⟨hload, hread⟩, heven, hnever, hwait⟩ := h
  rw [Chan.afterRead_eq]
  refine ⟨hmask, hphase, hunarmed, htrigger, hgate, hundef, ⟨hload, fun hsecond => ?_⟩, heven, hnever, hwait⟩
  by_contra ha
  exact ha (hread ((if_neg ha).symm.trans hsecond))

/-- Load completion gives a channel with the invariant, whatever count register and place of the sequencer the write
left, the wait of a half load in mode 0 included. -/
theorem Chan.Inv.completeLoad {v : Variant} {ch : Chan} (h : ch.Inv v) (r : Count) {l : ByteState}
    (hl : l = .secondByte → ch.access = .lsbMsb) :
    (Chan.completeLoad { ch with countRegister := r, loadState := l }).Inv v := by
  obtain ⟨hmask, hphase, hunarmed, htrigger, hgate, hundef, ⟨hload, hread⟩, heven, hnever, hwait⟩ := h
  rcases Chan.completeLoad_cases { ch with countRegister := r, loadState := l } with ⟨hp, hc⟩ | ⟨hp, hc⟩ <;> rw [hc]
  · rw [Chan.firstLoad_eq]
    by_cases hm : ch.mode = .mode1 ∨ ch.mode = .mode5
    · grind
    · grind
  · rw [Chan.subsequentLoad_eq]
    by_cases hm : ch.mode = .mode0 ∨ ch.mode = .mode4
    · grind
    · grind

theorem Chan.Inv.writeFirstByte {v : Variant} {ch : Chan} (h : ch.Inv v) (b : Byte) (ha : ch.access = .lsbMsb) :
    (ch.writeFirstByte b).Inv v := by
  obtain ⟨hmask, hphase, hunarmed, htrigger, hgate, hundef, ⟨hload, hread⟩, heven, hnever, hwait⟩ := h
  by_cases hm : ch.mode = .mode0
  · rw [Chan.writeFirstByte_of_mode0 b hm]
    grind
  · rw [Chan.writeFirstByte_of_not_mode0 b hm]
    grind

theorem Chan.Inv.writeByte {v : Variant} {ch : Chan} (h : ch.Inv v) (b : Byte) : (ch.writeByte b).Inv v := by
  rcases ch.writeByte_cases b with ⟨_, hw⟩ | ⟨_, hw⟩ | ⟨ha, _, hw⟩ | ⟨_, _, hw⟩ <;> rw [hw]
  · exact h.completeLoad _ h.loadSecond
  · exact h.completeLoad _ h.loadSecond
  · exact h.writeFirstByte b ha
  · exact h.completeLoad _ (nomatch ·)

/-! The gate. -/

theorem Chan.Inv.setGate {v : Variant} {ch : Chan} (h : ch.Inv v) (g : Level) : (ch.setGate g).Inv v := by
  rcases ch.setGate_cases g with ⟨hs, _, rfl, hg⟩ | ⟨hs, _, rfl, hg⟩ | ⟨_, hg⟩ <;> rw [hg]
  · rw [Chan.risingEdge_eq]
    by_cases hm : ch.mode = .mode0 ∨ ch.mode = .mode4 <;> grind
  · rw [Chan.fallingEdge_eq]
    by_cases hm : ch.mode = .mode2 ∨ ch.mode = .mode3 <;> grind
  · exact h

/-! The tick. -/

theorem isOdd_and_lateMask (r : Count) : isOdd (r &&& 0xFFFE) = false := by
  simp [isOdd]

/-- A square step of two keeps an even counter even, by the count or by the mask (R29 item 8). -/
theorem Chan.squareStep_two_even {ch : Chan} (hmask : ch.loadMask = 0xFFFE) (h : isOdd ch.countingElement = false) :
    isOdd (ch.squareStep 2).countingElement = false := by
  by_cases hz : decK 2 ch.countingElement ch.bcd = 0
  · rw [Chan.squareStep_of_zero hz, Chan.toggleReload_countingElement, hmask, isOdd_and_lateMask]
  · rw [Chan.squareStep_of_ne_zero hz]
    exact (isOdd_decK_two_mul 1 _ _).trans h

/-- On `Late` mode 3 keeps an even counter even. -/
theorem Chan.countMode3_late_even {ch : Chan} (hmask : ch.loadMask = 0xFFFE) (h : isOdd ch.countingElement = false) :
    isOdd (ch.countMode3 .late).countingElement = false := by
  rcases ch.countMode3_cases .late with ⟨_, hc⟩ | ⟨_, _, hc⟩ | ⟨_, _, hv, _⟩ | ⟨_, _, _, _, hc⟩ | ⟨_, _, _, _, hc⟩
  · rw [hc, h]
  · rw [hc, Chan.squareStep_two_even hmask h]
  · nomatch hv
  · rw [hc, Chan.squareStep_two_even hmask h]
  · rw [hc]
    split
    · rw [Chan.toggleReload_countingElement, hmask, isOdd_and_lateMask]
    · exact (isOdd_decK_two_mul 1 _ _).trans h

/-- A counting rule on a channel whose state runs it keeps the invariant: it writes the counter and the output, or asks
for the load cycle of mode 2. -/
theorem Chan.Inv.modeRule {v : Variant} {ch : Chan} (h : ch.Inv v)
    (hstate : ch.countingState = .counting ∨ ch.countingState = .waitingForLoadTrigger) : (ch.modeRule v).Inv v := by
  have heven : v = .late → ch.mode = .mode3 → ch.countingState = .counting →
      isOdd (ch.modeRule v).countingElement = false := by
    rintro rfl hm hs
    rw [Chan.modeRule, hm]
    exact Chan.countMode3_late_even (by rw [h.maskFits, hm]; rfl) (h.lateEven rfl hm hs)
  obtain ⟨hmask, hphase, hunarmed, htrigger, hgate, hundef, hbyte, _, hnever, hwait⟩ := h
  rcases ch.modeRule_frame v with hr | ⟨hm, _, hr⟩ <;> rw [hr]
  · exact ⟨hmask, hphase, hunarmed, htrigger, hgate, hundef, hbyte, heven, hnever, hwait⟩
  · grind

theorem Chan.Inv.loadCycle {v : Variant} {ch : Chan} (h : ch.Inv v) (hs : ch.countingState = .waitingForLoadCycle) :
    ch.loadCycle.Inv v := by
  have heven : v = .late → ch.mode = .mode3 → isOdd ch.loadCycle.countingElement = false := by
    rintro rfl hm
    rw [Chan.loadCycle_countingElement, h.maskFits, hm]
    exact isOdd_and_lateMask _
  obtain ⟨hmask, hphase, hunarmed, htrigger, hgate, hundef, hbyte, _, hnever, hwait⟩ := h
  grind [Chan.loadCycle, Chan.reload]

theorem Chan.Inv.tick {p : Params} {ch : Chan} (h : ch.Inv p.variant) : (ch.tick p).Inv p.variant := by
  rcases ch.tick_cases p with ⟨hs, ht⟩ | ⟨hs, _, _, ht⟩ | ⟨hs | hs | ⟨hs, _⟩, ht⟩ | ⟨_, ht⟩ <;> rw [ht]
  · exact h.loadCycle hs
  · obtain ⟨hmask, hphase, hunarmed, htrigger, hgate, hundef, hbyte, heven, hnever, hwait⟩ := h
    grind [Chan.placeholderLoad]
  · exact h.modeRule (.inl hs)
  · exact absurd hs h.neverTriggered
  · exact h.modeRule (.inr hs)
  · exact h

/-! Every event. -/

/-- An effect that an event can have keeps the invariant. -/
theorem Selects.keeps_inv {p : Params} {c : Channel} {i : Instr} {op : ChanOp} (hsel : Selects p.variant c i op)
    (hevent : i.deliverable = true) {ch : Chan} (h : ch.Inv p.variant) : (op.run p c ch).Inv p.variant := by
  cases hsel with
  | keep => exact h
  | modeSet _ => exact Chan.modeSet_inv ..
  | latch _ => exact h.latch
  | read => exact h.afterRead
  | write b => exact h.writeByte b
  | setGate g => exact h.setGate g
  | tick | chTick => exact h.tick
  | reset => exact Chan.resetWith_inv ..
  | countMode m => exact absurd hevent (by rw [countModeInstr_not_deliverable]; exact Bool.false_ne_true)
  | loadCycle | placeholderLoad | completeLoad => exact absurd hevent Bool.false_ne_true

theorem State.inv_iff (s : State) : s.Inv ↔ ∀ c, (s.chan c).Inv s.params.variant :=
  ⟨fun ⟨h0, h1, h2⟩ c => by cases c <;> assumption, fun h => ⟨h .ch0, h .ch1, h .ch2⟩⟩

/-- An event that completes keeps the invariant of every channel. -/
theorem exec_keeps_inv {i : Instr} {s t : State} (hevent : i.deliverable = true) (hs : s.Inv)
    (h : exec i s = .next t) : t.Inv := by
  rw [State.inv_iff] at hs ⊢
  intro c
  obtain ⟨op, hsel, hop⟩ := exec_chan s.params.variant i c
  rw [(exec_params_inputs h).1, hop s t rfl h]
  exact hsel.keeps_inv hevent (hs c)

/-- The decoder delivers events only (R73). -/
theorem decode_deliverable (v : Variant) (e : Input) : (decode v e).deliverable = true := by
  cases e with
  | control w => exact deliverable_of_wellFormed (everyControlWordIsRecovered v w).1
  | bus code data =>
    show (decodeBus code data).deliverable = true
    unfold decodeBus
    split <;> rfl
  | setGate c g | tick | chTick c | reset => rfl

/-- Settles O57: a step runs a decoded event on the state without it, or nothing. -/
theorem stepKeepsInvariant : Obligations.StepKeepsInvariant := by
  intro s t hs h
  cases hinputs : s.inputs with
  | nil =>
    obtain rfl := next_unique (step_of_no_event hinputs) h
    exact hs
  | cons e rest =>
    rw [step_of_event hinputs] at h
    exact exec_keeps_inv (s := { s with inputs := rest }) (decode_deliverable _ e) hs h

/-! The transition table (R172). -/

/-- Where a count write moves a channel: the stop of mode 0 at the first byte, or the load cycle or trigger wait that a
completed load asks for. -/
theorem Chan.Inv.writeByte_moves {v : Variant} {ch : Chan} (h : ch.Inv v) (b : Byte)
    (hne : (ch.writeByte b).countingState ≠ ch.countingState) :
    ((ch.writeByte b).countingState = .waitingForReload ∧ ch.mode = .mode0 ∧ ch.access = .lsbMsb ∧
      ch.loadState = .firstByte) ∨
    ((ch.access ≠ .lsbMsb ∨ ch.loadState = .secondByte) ∧
      ((ch.countingState = .waitingForReload ∧ (ch.writeByte b).countingState = .waitingForLoadTrigger ∧
          ch.loadPhase = .initial ∧ (ch.mode = .mode1 ∨ ch.mode = .mode5)) ∨
        (ch.countingState = .waitingForReload ∧ (ch.writeByte b).countingState = .waitingForLoadCycle ∧
          ch.loadPhase = .initial ∧ ¬ (ch.mode = .mode1 ∨ ch.mode = .mode5)) ∨
        ((ch.writeByte b).countingState = .waitingForLoadCycle ∧ ch.loadPhase = .subsequent ∧
          (ch.mode = .mode0 ∨ ch.mode = .mode4)))) := by
  by_cases hcomplete : ch.access ≠ .lsbMsb ∨ ch.loadState = .secondByte
  · refine .inr ⟨hcomplete, ?_⟩
    obtain ⟨r, l, hw⟩ := Chan.writeByte_completes b hcomplete
    rw [hw] at hne ⊢
    rcases Chan.completeLoad_cases { ch with countRegister := r, loadState := l } with ⟨hp, hc⟩ | ⟨hp, hc⟩
    · have hwait := h.waits_of_initial hp
      rw [hc, Chan.firstLoad_eq]
      by_cases hm : ch.mode = .mode1 ∨ ch.mode = .mode5
      · exact .inl ⟨hwait, if_pos hm, hp, hm⟩
      · exact .inr (.inl ⟨hwait, if_neg hm, hp, hm⟩)
    · rw [hc, Chan.subsequentLoad_eq] at hne
      rw [hc, Chan.subsequentLoad_eq]
      by_cases hm : ch.mode = .mode0 ∨ ch.mode = .mode4
      · exact .inr (.inr ⟨if_pos hm, hp, hm⟩)
      · exact absurd (if_neg hm) hne
  · rw [not_or, not_not] at hcomplete
    obtain ⟨ha, hl⟩ := hcomplete
    have hfirst : ch.loadState = .firstByte := by
      cases hs : ch.loadState
      · rfl
      · exact absurd hs hl
    rw [Chan.writeByte_of_firstByte b ha hfirst] at hne ⊢
    by_cases hm : ch.mode = .mode0
    · exact .inl ⟨by rw [Chan.writeFirstByte_of_mode0 b hm], hm, ha, hfirst⟩
    · rw [Chan.writeFirstByte_of_not_mode0 b hm] at hne
      exact absurd rfl hne

/-- Where a gate change moves a channel: to the load cycle on a rising edge, to the gate wait on a falling edge. -/
theorem Chan.setGate_moves (g : Level) (ch : Chan) (hne : (ch.setGate g).countingState ≠ ch.countingState) :
    (ch.countingState ≠ .waitingForReload ∧ (ch.setGate g).countingState = .waitingForLoadCycle ∧ g = .high ∧
      ch.gate = .low ∧ ¬ (ch.mode = .mode0 ∨ ch.mode = .mode4)) ∨
    (ch.countingState ≠ .waitingForReload ∧ (ch.setGate g).countingState = .waitingForGate ∧ g = .low ∧
      ch.gate = .high ∧ (ch.mode = .mode2 ∨ ch.mode = .mode3)) := by
  rcases ch.setGate_cases g with ⟨hs, hg, rfl, h⟩ | ⟨hs, hg, rfl, h⟩ | ⟨_, h⟩
  · rw [h, Chan.risingEdge_eq] at hne ⊢
    by_cases hm : ch.mode = .mode0 ∨ ch.mode = .mode4
    · exact absurd (if_pos hm) hne
    · exact .inl ⟨hs, if_neg hm, rfl, hg, hm⟩
  · rw [h, Chan.fallingEdge_eq] at hne ⊢
    by_cases hm : ch.mode = .mode2 ∨ ch.mode = .mode3
    · exact .inr ⟨hs, if_pos hm, rfl, hg, hm⟩
    · exact absurd (if_neg hm) hne
  · rw [h] at hne
    exact absurd rfl hne

/-- Where a tick moves a channel: from the load cycle to counting, and in mode 2 at the count of one back to the load
cycle. -/
theorem Chan.Inv.tick_moves {p : Params} {ch : Chan} (h : ch.Inv p.variant)
    (hne : (ch.tick p).countingState ≠ ch.countingState) :
    (ch.countingState = .waitingForLoadCycle ∧ (ch.tick p).countingState = .counting) ∨
    (ch.countingState = .counting ∧ (ch.tick p).countingState = .waitingForLoadCycle ∧ ch.mode = .mode2 ∧
      ch.gate = .high ∧ (ch.tick p).countingElement = 1) := by
  rcases ch.tick_cases p with ⟨hs, ht⟩ | ⟨_, _, _, ht⟩ | ⟨hs, ht⟩ | ⟨_, ht⟩ <;> rw [ht] at hne ⊢
  · exact .inl ⟨hs, rfl⟩
  · exact absurd rfl hne
  · rcases ch.modeRule_frame p.variant with hr | ⟨hm, hg, hr⟩ <;> rw [hr] at hne ⊢
    · exact absurd rfl hne
    · have hcounting : ch.countingState = .counting := by
        obtain ⟨_, _, _, htrigger, _, _, _, _, hnever, _⟩ := h
        rcases hs with hs | hs | ⟨hs, _⟩
        · exact hs
        · exact absurd hs hnever
        · have := htrigger hs
          simp [hm] at this
      exact .inr ⟨hcounting, rfl, hm, hg, rfl⟩
  · exact absurd rfl hne

/-- Settles O58: the effect of the operation on the channel, and where that effect moves it. -/
theorem countingStateTransitionsAreTheTable : Obligations.CountingStateTransitionsAreTheTable := by
  intro i c s t hinv hwf h hne
  obtain ⟨op, hsel, hop⟩ := exec_chan s.params.variant i c
  have hchan := hop s t rfl h
  have hevent := deliverable_of_wellFormed hwf
  have hc := (s.inv_iff.mp hinv) c
  rw [hchan] at hne ⊢
  intro ch cs completes
  cases hsel with
  | keep => exact absurd rfl hne
  | modeSet hops => exact .inl ⟨rfl, .inr ⟨_, _, _, hops⟩⟩
  | latch _ => exact absurd (congrArg Chan.countingState (Chan.latch_eq _)) hne
  | read => exact absurd (congrArg Chan.countingState (Chan.afterRead_eq _)) hne
  | write b =>
    rcases hc.writeByte_moves b hne with
      ⟨hcs, hm, ha, hl⟩ | ⟨hdone, ⟨hs, hcs, hp, hm⟩ | ⟨hs, hcs, hp, hm⟩ | ⟨hcs, hp, hm⟩⟩
    · exact .inr (.inl ⟨hcs, hm, ha, hl, b, rfl⟩)
    · iterate 2 right
      exact .inl ⟨hs, hcs, ⟨b, rfl, hdone⟩, hp, hm⟩
    · iterate 3 right
      exact .inl ⟨hs, hcs, ⟨b, rfl, hdone⟩, hp, not_or.mp hm⟩
    · iterate 4 right
      exact .inl ⟨hcs, ⟨b, rfl, hdone⟩, hp, hm⟩
  | setGate g =>
    rcases Chan.setGate_moves g _ hne with ⟨hs, hcs, rfl, hg, hm⟩ | ⟨hs, hcs, rfl, hg, hm⟩
    · iterate 5 right
      exact .inl ⟨hs, hcs, rfl, hg, not_or.mp hm⟩
    · iterate 6 right
      exact .inl ⟨hs, hcs, rfl, hg, hm⟩
  | tick | chTick =>
    rcases hc.tick_moves hne with ⟨hs, hcs⟩ | ⟨hs, hcs, hm, hg, hone⟩
    · iterate 7 right
      exact .inl ⟨hs, hcs, by simp⟩
    · iterate 8 right
      exact ⟨hs, hcs, by simp, hm, hg, hone⟩
  | reset => exact .inl ⟨rfl, .inl rfl⟩
  | countMode m => exact absurd hevent (by rw [countModeInstr_not_deliverable]; exact Bool.false_ne_true)
  | loadCycle | placeholderLoad | completeLoad => exact absurd hevent Bool.false_ne_true

end Sys2Proof.Machine
end

section
/-!
SUPPORT. Runs of ticks that count a loaded count down: the decimal digits (R29 item 9), the one-shot rules of modes 0, 1,
4 and 5 (R182, R198, R200) and the rate generator (R187).
-/

namespace Sys2Proof.Machine

/-! The mask of `Late` (R18, R84). -/

theorem and_fullMask (v : Count) : v &&& 0xFFFF = v :=
  BitVec.and_allOnes

theorem and_lateMask_toNat (v : Count) : (v &&& 0xFFFE).toNat = v.toNat - v.toNat % 2 := by
  have hshift : v &&& (0xFFFE : Count) = (v >>> 1) <<< 1 := by
    refine BitVec.eq_of_getLsbD_eq fun k hk => ?_
    interval_cases k <;> simp
  have hlt := v.isLt
  rw [hshift, BitVec.toNat_shiftLeft, BitVec.toNat_ushiftRight, Nat.shiftRight_eq_div_pow, Nat.shiftLeft_eq]
  omega

theorem isOdd_iff (v : Count) : isOdd v = true ↔ v.toNat % 2 = 1 := by
  have h := countValue_mod_two false v
  rw [show countValue false v = v.toNat from rfl] at h
  rw [h]
  cases isOdd v <;> decide

theorem and_lateMask_of_even {v : Count} (h : isOdd v = false) : v &&& 0xFFFE = v := by
  have hmod : ¬ v.toNat % 2 = 1 := fun hodd => nomatch h.symm.trans ((isOdd_iff v).mpr hodd)
  apply BitVec.eq_of_toNat_eq
  rw [and_lateMask_toNat]
  omega

/-- From an odd value one decrement clears bit 0 and borrows from no digit, binary or decimal. -/
theorem and_lateMask_of_odd {v : Count} (bcd : Bool) (h : isOdd v = true) : v &&& 0xFFFE = dec v bcd := by
  have hmod := (isOdd_iff v).mp h
  apply BitVec.eq_of_toNat_eq
  rw [and_lateMask_toNat, hmod]
  cases bcd with
  | false =>
    rw [dec_binary, BitVec.toNat_sub]
    have hlt := v.isLt
    simp only [BitVec.reduceToNat]
    omega
  | true =>
    have hdigit : (digit 0 v).toNat = v.toNat % 16 := by
      rw [digit_toNat]
      simp
    have hne : ¬ digit 0 v = 0 := fun hz => by
      rw [hz] at hdigit
      simp at hdigit
      omega
    have hpack := packDigits_toNat (digit 3 v) (digit 2 v) (digit 1 v) (digit 0 v)
    rw [packDigits_digits] at hpack
    rw [dec_bcd, decBcd, if_pos hne, packDigits_toNat, sub_one_toNat hne]
    omega

/-- What a load puts into the counter: the count register, or one less for an odd square wave on `Late`. -/
theorem Chan.Inv.reload_cases {v : Variant} {ch : Chan} (h : ch.Inv v) :
    ch.countRegister &&& ch.loadMask = ch.countRegister ∨
    (v = .late ∧ ch.mode = .mode3 ∧ isOdd ch.countRegister = true ∧
      ch.countRegister &&& ch.loadMask = dec ch.countRegister ch.bcd) := by
  rw [h.maskFits, loadMaskOf_eq]
  split
  · next hlate =>
    cases hodd : isOdd ch.countRegister with
    | false => exact .inl (and_lateMask_of_even hodd)
    | true => exact .inr ⟨hlate.2, hlate.1, rfl, and_lateMask_of_odd ch.bcd hodd⟩
  · exact .inl (and_fullMask _)

/-! Decimal digits. -/

/-- A BCD channel whose counter is decimal, and will be after a load. -/
structure Chan.Decimal (ch : Chan) : Prop where
  bcd : ch.bcd = true
  reload : ValidBcd (ch.countRegister &&& ch.loadMask)
  counter : ValidBcd ch.countingElement

/-- What a counting rule can leave in the counter. -/
theorem Chan.countMode_countingElement (v : Variant) (m : Mode) (ch : Chan) :
    (∃ k, (ch.countMode v m).countingElement = decK k ch.countingElement ch.bcd) ∨
    (ch.countMode v m).countingElement = ch.countRegister &&& ch.loadMask := by
  have square (k : Nat) : (∃ j, (ch.squareStep k).countingElement = decK j ch.countingElement ch.bcd) ∨
      (ch.squareStep k).countingElement = ch.countRegister &&& ch.loadMask := by
    by_cases hz : decK k ch.countingElement ch.bcd = 0
    · exact .inr (by rw [Chan.squareStep_of_zero hz, Chan.toggleReload_countingElement])
    · exact .inl ⟨k, by rw [Chan.squareStep_of_ne_zero hz]⟩
  cases m <;> rw [Chan.countMode]
  case mode0 =>
    left
    cases hg : ch.gate with
    | low => exact ⟨0, by rw [Chan.countMode0_of_low hg, decK_zero]⟩
    | high => exact ⟨1, by rw [Chan.countMode0_of_high hg, decK_one]⟩
  case mode1 => exact .inl ⟨1, by rw [Chan.countMode1_eq, decK_one]⟩
  case mode2 =>
    left
    rcases ch.countMode2_cases with ⟨_, h⟩ | ⟨_, _, h⟩ | ⟨_, hone, h⟩
    · exact ⟨0, by rw [h, decK_zero]⟩
    · exact ⟨1, by rw [h, decK_one]⟩
    · exact ⟨1, by rw [h, decK_one, hone]⟩
  case mode3 =>
    rcases ch.countMode3_cases v with ⟨_, h⟩ | ⟨_, _, h⟩ | ⟨_, _, _, h⟩ | ⟨_, _, _, _, h⟩ | ⟨_, _, _, _, h⟩ <;> rw [h]
    · exact .inl ⟨0, (decK_zero _ _).symm⟩
    · exact square 2
    · exact square _
    · exact square 2
    · split
      · exact .inr (Chan.toggleReload_countingElement ch)
      · exact .inl ⟨2, Chan.decBy_countingElement 2 ch⟩
  case mode4 =>
    left
    cases hg : ch.gate with
    | low => exact ⟨0, by rw [Chan.countMode4_of_low hg, decK_zero]⟩
    | high => exact ⟨1, by rw [Chan.countMode4_of_high hg, Chan.countMode5, Chan.strobe_eq, decK_one]⟩
  case mode5 => exact .inl ⟨1, by rw [Chan.countMode5, Chan.strobe_eq, decK_one]⟩

theorem Chan.Decimal.modeRule {v : Variant} {ch : Chan} (h : ch.Decimal) : ValidBcd (ch.modeRule v).countingElement := by
  obtain ⟨hbcd, hload, hcount⟩ := h
  rw [Chan.modeRule_eq_countMode]
  rcases ch.countMode_countingElement v ch.mode with ⟨k, hk⟩ | hk <;> rw [hk]
  · rw [hbcd]
    exact (decK_value (bcd := true) (fun _ => hcount) k).1 rfl
  · exact hload

theorem Chan.Decimal.tick {p : Params} (hp : ValidBcd p.placeholder) {ch : Chan} (h : ch.Decimal) :
    (ch.tick p).Decimal := by
  have hcount : ValidBcd (ch.tick p).countingElement := by
    rcases ch.tick_cases p with ⟨_, ht⟩ | ⟨_, _, _, ht⟩ | ⟨_, ht⟩ | ⟨_, ht⟩ <;> rw [ht]
    · exact h.reload
    · exact hp
    · exact h.modeRule
    · exact h.counter
  rw [Chan.tick_frame]
  exact ⟨h.bcd, h.reload, hcount⟩

/-- Settles O47: a load leaves decimal digits in the counter and so does every tick. -/
theorem decimalCounterStaysDecimal : Obligations.DecimalCounterStaysDecimal := by
  intro p n ch hinv hbcd hregister hcount hplaceholder
  have hload : ValidBcd (ch.countRegister &&& ch.loadMask) := by
    rcases hinv.reload_cases with h | ⟨_, _, _, h⟩ <;> rw [h]
    · exact hregister
    · rw [hbcd]
      exact (dec_value (bcd := true) fun _ => hregister).1 rfl
  have hdecimal : (Chan.ticks p n ch).Decimal :=
    Chan.ticks_induction (fun _ h => h.tick hplaceholder) n ⟨hbcd, hload, hcount⟩
  exact hdecimal.counter

/-! One tick of a counting channel, by mode. -/

/-- The channel with another counter value and output level. -/
def Chan.showing (ce : Count) (o : Level) (ch : Chan) : Chan :=
  { ch with countingElement := ce, output := o }

theorem Chan.showing_self {ch : Chan} {ce : Count} {o : Level} (hce : ch.countingElement = ce) (ho : ch.output = o) :
    ch.showing ce o = ch := by
  subst hce ho
  rfl

theorem Chan.tick_of_counting_mode (p : Params) {ch : Chan} {m : Mode} (hs : ch.countingState = .counting)
    (hm : ch.mode = m) : ch.tick p = ch.countMode p.variant m := by
  rw [Chan.tick_of_counting p hs, Chan.modeRule_eq_countMode, hm]

/-- A channel that counts down and raises its output at zero (R181, R184). -/
def Chan.RaisesAtZero (ch : Chan) : Prop :=
  ch.countingState = .counting ∧ (ch.mode = .mode0 ∧ ch.gate = .high ∨ ch.mode = .mode1 ∧ ch.armed = true)

theorem Chan.RaisesAtZero.tick {ch : Chan} (h : ch.RaisesAtZero) (p : Params) :
    ch.tick p = ch.showing (dec ch.countingElement ch.bcd)
      (if dec ch.countingElement ch.bcd = 0 then .high else ch.output) := by
  obtain ⟨hs, ⟨hm, hg⟩ | ⟨hm, ha⟩⟩ := h
  · exact (Chan.tick_of_counting_mode p hs hm).trans (Chan.countMode0_of_high hg)
  · rw [Chan.tick_of_counting_mode p hs hm, Chan.countMode, Chan.countMode1_eq]
    simp only [ha, and_true, Chan.showing]

/-- A channel that counts down and pulls its output LOW at zero only (R198, R200). -/
def Chan.StrobesAtZero (ch : Chan) : Prop :=
  ch.countingState = .counting ∧ (ch.mode = .mode4 ∧ ch.gate = .high ∨ ch.mode = .mode5)

theorem Chan.StrobesAtZero.tick {ch : Chan} (h : ch.StrobesAtZero) (p : Params) :
    ch.tick p = ch.showing (dec ch.countingElement ch.bcd)
      (if dec ch.countingElement ch.bcd = 0 then .low else .high) := by
  obtain ⟨hs, ⟨hm, hg⟩ | hm⟩ := h
  · exact (Chan.tick_of_counting_mode p hs hm).trans ((Chan.countMode4_of_high hg).trans ch.strobe_eq)
  · exact (Chan.tick_of_counting_mode p hs hm).trans ch.strobe_eq

/-! Counting down from the load cycle. -/

/-- Out of mode 3 the load cycle takes the count register as it is. -/
theorem Chan.Inv.loadCycle_counter {v : Variant} {ch : Chan} (h : ch.Inv v) (hm : ch.mode ≠ .mode3) :
    ch.loadCycle.countingElement = ch.countRegister := by
  rw [Chan.loadCycle_countingElement]
  exact h.reload_cases.resolve_right fun ⟨_, hthree, _⟩ => hm hthree

/-- The output of a count: one level when the count has run out, the other before and after. -/
def countLevel (N : Nat) (atEnd otherwise : Level) (k : Nat) : Level :=
  if k = N then atEnd else otherwise

/-- Where every tick is a decrement that shows one level at zero and the other elsewhere, `n` ticks from the load are `n`
decrements, and the one level shows exactly when the count has run out. -/
theorem Chan.ticks_countdown {p : Params} {ch : Chan} {r : Count} {atEnd otherwise : Level} {n : Nat}
    (hv : ValidCount ch.bcd r) (hload : ch.countingElement = r) (hout : ch.output = otherwise)
    (hn : n ≤ loadedCount ch.bcd r + 1)
    (hstep : ∀ j < n,
      (ch.showing (decK j r ch.bcd) (countLevel (loadedCount ch.bcd r) atEnd otherwise j)).tick p =
        ch.showing (dec (decK j r ch.bcd) ch.bcd) (if dec (decK j r ch.bcd) ch.bcd = 0 then atEnd else otherwise)) :
    Chan.ticks p n ch =
      ch.showing (decK n r ch.bcd) (countLevel (loadedCount ch.bcd r) atEnd otherwise n) := by
  obtain ⟨hpos, _, _⟩ := loadedCount_bounds hv
  have hrun := Chan.ticks_eq_of_steps (p := p) (n := n)
    (f := fun k => ch.showing (decK k r ch.bcd) (countLevel (loadedCount ch.bcd r) atEnd otherwise k)) ?_
  · have hstart : ch.showing (decK 0 r ch.bcd) (countLevel (loadedCount ch.bcd r) atEnd otherwise 0) = ch :=
      Chan.showing_self hload (hout.trans (if_neg hpos.ne).symm)
    rwa [hstart] at hrun
  intro j hj
  have hzero := decK_eq_zero_iff hv (Nat.succ_pos j) (by omega)
  rw [hstep j hj, ← decK_succ_right, countLevel]
  simp only [hzero]

/-- Modes 0 and 1 from the load cycle to the end of the count. -/
theorem Chan.RaisesAtZero.ticks {ch : Chan} (h : ch.RaisesAtZero) (hout : ch.output = .low) {r : Count}
    (hload : ch.countingElement = r) (hv : ValidCount ch.bcd r) (p : Params) {k : Nat}
    (hk : k ≤ loadedCount ch.bcd r) :
    Chan.ticks p k ch = ch.showing (decK k r ch.bcd) (countLevel (loadedCount ch.bcd r) .high .low k) := by
  refine Chan.ticks_countdown hv hload hout (by omega) fun j hj => ?_
  have hlow : countLevel (loadedCount ch.bcd r) .high .low j = .low := if_neg (by omega)
  rw [hlow]
  have hraises : RaisesAtZero (ch.showing (decK j r ch.bcd) .low) := h
  exact hraises.tick p

/-- Modes 4 and 5 from the load cycle to the tick after the strobe. -/
theorem Chan.StrobesAtZero.ticks {ch : Chan} (h : ch.StrobesAtZero) (hout : ch.output = .high) {r : Count}
    (hload : ch.countingElement = r) (hv : ValidCount ch.bcd r) (p : Params) {k : Nat}
    (hk : k ≤ loadedCount ch.bcd r + 1) :
    Chan.ticks p k ch = ch.showing (decK k r ch.bcd) (countLevel (loadedCount ch.bcd r) .low .high k) := by
  refine Chan.ticks_countdown hv hload hout hk fun j _ => ?_
  have hstrobes : StrobesAtZero (ch.showing (decK j r ch.bcd) (countLevel (loadedCount ch.bcd r) .low .high j)) := h
  exact hstrobes.tick p

theorem countLevel_eq_iff {N k : Nat} {a b : Level} (hab : b ≠ a) : countLevel N a b k = a ↔ k = N := by
  unfold countLevel
  split <;> simp_all

/-- Settles O48: after the load cycle the channel counts down from its count register with the output LOW. -/
theorem outputRisesAfterCountTicks : Obligations.OutputRisesAfterCountTicks := by
  intro p ch k hinv hmode hs hv N hk
  have hraises : ch.loadCycle.RaisesAtZero := by
    refine ⟨rfl, hmode.imp_right fun hm => ⟨hm, ?_⟩⟩
    exact hinv.armed_of_loaded (by rw [hs]; decide)
  have hlow : ch.loadCycle.output = .low := by
    rw [Chan.loadCycle_output]
    rcases hmode with ⟨hm, _⟩ | hm <;> rw [hm] <;> rfl
  have hcounter : ch.loadCycle.countingElement = ch.countRegister :=
    hinv.loadCycle_counter (by rcases hmode with ⟨hm, _⟩ | hm <;> simp [hm])
  rw [Chan.ticks_succ, Chan.tick_of_waitingForLoadCycle p hs, hraises.ticks hlow hcounter hv p hk]
  exact ⟨countValue_decK_loaded hv hk, countLevel_eq_iff (by decide)⟩

/-- Settles O52: after the load cycle the channel counts down from its count register with the output HIGH. -/
theorem strobeComesOnceCountRunsOut : Obligations.StrobeComesOnceCountRunsOut := by
  intro p ch k hinv hmode hs hv N hk
  have hstrobes : ch.loadCycle.StrobesAtZero := ⟨rfl, hmode⟩
  have hhigh : ch.loadCycle.output = .high := by
    rw [Chan.loadCycle_output]
    rcases hmode with ⟨hm, _⟩ | hm <;> rw [hm] <;> rfl
  have hcounter : ch.loadCycle.countingElement = ch.countRegister :=
    hinv.loadCycle_counter (by rcases hmode with ⟨hm, _⟩ | hm <;> simp [hm])
  rw [Chan.ticks_succ, Chan.tick_of_waitingForLoadCycle p hs, hstrobes.ticks hhigh hcounter hv p hk]
  exact countLevel_eq_iff (by decide)

/-! The rate generator (R187). -/

theorem level_high_ne_low : Level.high ≠ Level.low := by decide

/-- The rate generator from its load cycle: before the last tick of the period every tick is a decrement. -/
theorem Chan.ticks_beforePulse {ch : Chan} {r : Count} (hm : ch.mode = .mode2) (hg : ch.gate = .high)
    (hs : ch.countingState = .counting) (hout : ch.output = .high) (hload : ch.countingElement = r)
    (hv : ValidCount ch.bcd r) (p : Params) {k : Nat} (hk : k + 1 < loadedCount ch.bcd r) :
    Chan.ticks p k ch = ch.showing (decK k r ch.bcd) .high := by
  have hrun := Chan.ticks_eq_of_steps (p := p) (f := fun k => ch.showing (decK k r ch.bcd) .high) (n := k) ?_
  · have hstart : ch.showing (decK 0 r ch.bcd) .high = ch := Chan.showing_self hload hout
    rwa [hstart] at hrun
  intro j hj
  have hone := decK_eq_one_iff hv (k := j + 1) (Nat.succ_pos j) (by omega)
  have hne : dec (decK j r ch.bcd) ch.bcd ≠ 1 := by
    rw [← decK_succ_right, ne_eq, hone]
    omega
  rw [decK_succ_right]
  exact (Chan.tick_of_counting_mode (ch := ch.showing (decK j r ch.bcd) .high) p hs hm).trans
    (Chan.countMode2_of_ne_one hg hne)

/-- At the last tick of the period the output is LOW and a load cycle is pending. -/
theorem Chan.ticks_atPulse {ch : Chan} {r : Count} (hm : ch.mode = .mode2) (hg : ch.gate = .high)
    (hs : ch.countingState = .counting) (hout : ch.output = .high) (hload : ch.countingElement = r)
    (hv : ValidCount ch.bcd r) (p : Params) {k : Nat} (hpos : 0 < k) (hk : k + 1 = loadedCount ch.bcd r) :
    Chan.ticks p k ch =
      { ch.showing (decK k r ch.bcd) .low with countingState := .waitingForLoadCycle } := by
  have hone := (decK_eq_one_iff hv hpos (by omega)).mpr hk
  obtain ⟨j, rfl⟩ : ∃ j, k = j + 1 := ⟨k - 1, by omega⟩
  rw [Chan.ticks_succ_right, Chan.ticks_beforePulse hm hg hs hout hload hv p (by omega)]
  rw [hone, Chan.tick_of_counting_mode (ch := ch.showing (decK j r ch.bcd) .high) p hs hm]
  rw [decK_succ_right] at hone
  exact Chan.countMode2_of_eq_one hg hone

/-- Settles O49: the period is the load cycle, the decrements and the low tick, whose load cycle starts the next one. -/
theorem rateGeneratorPeriod : Obligations.RateGeneratorPeriod := by
  intro p ch k hinv hm hg hs hv N htwo hk
  have hcounter : ch.loadCycle.countingElement = ch.countRegister := hinv.loadCycle_counter (by simp [hm])
  have hhigh : ch.loadCycle.output = .high := by
    rw [Chan.loadCycle_output, hm]
    rfl
  have before {j : Nat} := Chan.ticks_beforePulse (k := j) (ch := ch.loadCycle) hm hg rfl hhigh hcounter hv p
  have atPulse {j : Nat} := Chan.ticks_atPulse (k := j) (ch := ch.loadCycle) hm hg rfl hhigh hcounter hv p
  have hvalue := countValue_decK_loaded hv hk.le
  have hperiod : Chan.ticks p N ch.loadCycle = ch.loadCycle := by
    obtain ⟨n, hn⟩ : ∃ n, N = n + 1 := ⟨N - 1, by omega⟩
    rw [hn, Chan.ticks_succ_right, atPulse (by omega) hn.symm, Chan.tick_of_waitingForLoadCycle p rfl]
    rfl
  rw [Chan.ticks_succ, Chan.tick_of_waitingForLoadCycle p hs]
  by_cases hend : k + 1 = N
  · rw [atPulse (by omega) hend]
    exact ⟨hvalue, iff_of_true rfl hend, hperiod⟩
  · have hbefore : k + 1 < N := by omega
    rw [before hbefore]
    exact ⟨hvalue, iff_of_false level_high_ne_low hend, hperiod⟩

end Sys2Proof.Machine
end

section
/-!
SUPPORT. The square wave (R190 to R194): a half of it as a run of square steps, and the two halves of each period by
parity and variant.
-/

namespace Sys2Proof.Machine

/-! A half of a square wave. -/

/-- A running square wave at the start of a half: the counter has just been reloaded (R163, R190). -/
structure Chan.HalfStart (ch : Chan) : Prop where
  mode : ch.mode = .mode3
  gate : ch.gate = .high
  counting : ch.countingState = .counting
  reloaded : ch.countingElement = ch.countRegister &&& ch.loadMask

/-- The channel with another counter value: where it is within a half. -/
def Chan.withCounter (ce : Count) (ch : Chan) : Chan :=
  { ch with countingElement := ce }

/-- The channel at the other output level: the start of the other half. -/
def Chan.toggled (ch : Chan) : Chan :=
  { ch with output := toggle ch.output }

/-- From the start of a half, the counter takes the values `e` on the `n` ticks of the half, and then the output toggles
with the counter reloaded. -/
def Chan.Half (p : Params) (n : Nat) (e : Nat → Count) (ch : Chan) : Prop :=
  (∀ j < n, Chan.ticks p j ch = ch.withCounter (e j)) ∧ Chan.ticks p n ch = ch.toggled

theorem Chan.HalfStart.toggled {ch : Chan} (h : ch.HalfStart) : ch.toggled.HalfStart :=
  ⟨h.mode, h.gate, h.counting, h.reloaded⟩

theorem Chan.toggled_toggled (ch : Chan) : ch.toggled.toggled = ch := by
  have h : toggle (toggle ch.output) = ch.output := by cases ch.output <;> rfl
  simp only [Chan.toggled, h]

theorem Chan.HalfStart.tick {ch : Chan} (h : ch.HalfStart) (p : Params) (ce : Count) :
    (ch.withCounter ce).tick p = (ch.withCounter ce).countMode3 p.variant :=
  Chan.tick_of_counting_mode (ch := ch.withCounter ce) p h.counting h.mode

/-- Toggling anywhere in a half leads to the start of the other. -/
theorem Chan.HalfStart.toggleReload {ch : Chan} (h : ch.HalfStart) (ce : Count) :
    (ch.withCounter ce).toggleReload = ch.toggled := by
  have hreload := h.reloaded
  unfold Chan.toggleReload Chan.reload Chan.withCounter Chan.toggled
  simp only [← hreload]

/-- A half, from its ticks one by one. -/
theorem Chan.half_of_steps {p : Params} {n : Nat} {e : Nat → Count} {ch : Chan} (hstart : e 0 = ch.countingElement)
    (hstep : ∀ j < n, (ch.withCounter (e j)).tick p = ch.withCounter (e (j + 1)))
    (hlast : (ch.withCounter (e n)).tick p = ch.toggled) : ch.Half p (n + 1) e := by
  have hzero : ch.withCounter (e 0) = ch := by rw [hstart]; rfl
  have hrun {k : Nat} (hk : k ≤ n) : Chan.ticks p k ch = ch.withCounter (e k) := by
    have h := Chan.ticks_eq_of_steps (p := p) (f := fun j => ch.withCounter (e j)) (n := k)
      fun j hj => hstep j (by omega)
    rwa [hzero] at h
  exact ⟨fun j hj => hrun (by omega), by rw [Chan.ticks_succ_right, hrun le_rfl, hlast]⟩

/-- A half of square steps that take the count register down by the amounts `a`, until they reach the whole count. -/
theorem Chan.HalfStart.half_of_amounts {p : Params} {ch : Chan} (h : ch.HalfStart)
    (hv : ValidCount ch.bcd ch.countRegister) {n : Nat} {a : Nat → Nat}
    (hstart : decK (a 0) ch.countRegister ch.bcd = ch.countingElement)
    (hrule : ∀ j ≤ n, ∃ k, a (j + 1) = a j + k ∧
      (ch.withCounter (decK (a j) ch.countRegister ch.bcd)).countMode3 p.variant =
        (ch.withCounter (decK (a j) ch.countRegister ch.bcd)).squareStep k)
    (hpos : ∀ j, 0 < a (j + 1)) (hlt : ∀ j < n, a (j + 1) < loadedCount ch.bcd ch.countRegister)
    (hend : a (n + 1) = loadedCount ch.bcd ch.countRegister) :
    ch.Half p (n + 1) fun j => decK (a j) ch.countRegister ch.bcd := by
  refine Chan.half_of_steps hstart (fun j hj => ?_) ?_
  · obtain ⟨k, hk, hstep⟩ := hrule j hj.le
    have hne : decK (a j + k) ch.countRegister ch.bcd ≠ 0 := by
      have := hlt j hj
      rw [← hk, ne_eq, decK_eq_zero_iff hv (hpos j) (by omega)]
      omega
    rw [h.tick, hstep, hk, decK_add]
    rw [decK_add] at hne
    exact Chan.squareStep_of_ne_zero hne
  · obtain ⟨k, hk, hstep⟩ := hrule n le_rfl
    have hzero : decK (a n + k) ch.countRegister ch.bcd = 0 := by
      rw [← hk, decK_eq_zero_iff hv (hpos n) (by omega), hend]
    rw [h.tick, hstep]
    rw [decK_add] at hzero
    rw [Chan.squareStep_of_zero hzero, h.toggleReload]

/-! Two halves are a period. -/

/-- In a high half and a low half the output is HIGH exactly in the first, and after both the channel is back. -/
theorem Chan.square_wave {p : Params} {ch : Chan} {n₁ n₂ : Nat} {e₁ e₂ : Nat → Count} (hout : ch.output = .high)
    (hhigh : ch.Half p n₁ e₁) (hlow : ch.toggled.Half p n₂ e₂) :
    (∀ k < n₁ + n₂, ((Chan.ticks p k ch).output = .high ↔ k < n₁)) ∧ Chan.ticks p (n₁ + n₂) ch = ch := by
  obtain ⟨hrun₁, hend₁⟩ := hhigh
  obtain ⟨hrun₂, hend₂⟩ := hlow
  have htoggled : ch.toggled.output = .low := by
    rw [Chan.toggled, hout]
    rfl
  refine ⟨fun k hk => ?_, by rw [Chan.ticks_add, hend₁, hend₂, Chan.toggled_toggled]⟩
  by_cases hfirst : k < n₁
  · rw [hrun₁ k hfirst]
    exact iff_of_true hout hfirst
  · obtain ⟨j, rfl⟩ := Nat.exists_eq_add_of_le (Nat.le_of_not_lt hfirst)
    rw [Chan.ticks_add, hend₁, hrun₂ j (by omega)]
    exact iff_of_false (fun hh => level_high_ne_low (hh.symm.trans htoggled)) hfirst

/-! The load cycle starts a high half. -/

theorem Chan.halfStart_loadCycle {ch : Chan} (hm : ch.mode = .mode3) (hg : ch.gate = .high) :
    ch.loadCycle.HalfStart ∧ ch.loadCycle.output = .high := by
  refine ⟨⟨hm, hg, rfl, rfl⟩, ?_⟩
  rw [Chan.loadCycle_output, hm]
  rfl

/-! Even counts (R190). -/

theorem Chan.HalfStart.half_of_even {p : Params} {ch : Chan} (h : ch.HalfStart)
    (hv : ValidCount ch.bcd ch.countRegister) (hload : ch.countingElement = ch.countRegister)
    (heven : isOdd ch.countRegister = false) {n : Nat} (hn : loadedCount ch.bcd ch.countRegister = 2 * (n + 1)) :
    ch.Half p (n + 1) fun j => decK (2 * j) ch.countRegister ch.bcd :=
  h.half_of_amounts hv hload.symm
    (fun j _ => ⟨2, rfl, Chan.countMode3_of_even (ch := ch.withCounter _) p.variant h.gate heven⟩)
    (fun j => by omega) (fun j hj => by omega) hn.symm

/-- Two halves of the same length run the counter through the same values. -/
theorem Chan.square_wave_counter {p : Params} {ch : Chan} {n : Nat} {e : Nat → Count} (hhigh : ch.Half p n e)
    (hlow : ch.toggled.Half p n e) {k : Nat} (hk : k < n + n) :
    (Chan.ticks p k ch).countingElement = e (k % n) := by
  obtain ⟨hrun₁, hend₁⟩ := hhigh
  by_cases hfirst : k < n
  · rw [hrun₁ k hfirst, Nat.mod_eq_of_lt hfirst]
    rfl
  · obtain ⟨j, rfl⟩ := Nat.exists_eq_add_of_le (Nat.le_of_not_lt hfirst)
    have hj : j < n := by omega
    rw [Chan.ticks_add, hend₁, hlow.1 j hj, Nat.add_mod_left, Nat.mod_eq_of_lt hj]
    rfl

/-- Settles O50: both halves take `N / 2` steps of two. -/
theorem squareWaveEvenHalfPeriod : Obligations.SquareWaveEvenHalfPeriod := by
  intro p ch k hinv hm hg hs hv heven N hk
  have heven' : isOdd ch.countRegister = false := heven
  obtain ⟨hpos, _, _⟩ := loadedCount_bounds hv
  have hparity := loadedCount_mod_two hv
  rw [heven', Bool.toNat_false] at hparity
  obtain ⟨n, hn⟩ : ∃ n, N = 2 * (n + 1) := ⟨N / 2 - 1, by omega⟩
  have hload : ch.loadCycle.countingElement = ch.countRegister :=
    hinv.reload_cases.resolve_right fun ⟨_, _, hodd, _⟩ => nomatch heven'.symm.trans hodd
  obtain ⟨hstart, hout⟩ := Chan.halfStart_loadCycle hm hg
  have hhigh := hstart.half_of_even (p := p) hv hload heven' hn
  have hlow := hstart.toggled.half_of_even (p := p) hv hload heven' hn
  obtain ⟨hlevels, hperiod⟩ := Chan.square_wave hout hhigh hlow
  have hhalf : N / 2 = n + 1 := by omega
  have hsum : N = n + 1 + (n + 1) := by omega
  have hmod : k % (n + 1) < n + 1 := Nat.mod_lt k (Nat.succ_pos n)
  rw [Chan.tick_of_waitingForLoadCycle p hs, hhalf, Chan.square_wave_counter hhigh hlow (by omega)]
  refine ⟨hlevels k (by omega), countValue_decK_loaded hv (by omega), ?_, by rwa [← hsum] at hperiod⟩
  rw [hhigh.2, Chan.toggled, hout]
  rfl

/-! Odd counts on `Early` (R191). -/

theorem isOdd_decK_odd (j : Nat) (v : Count) (bcd : Bool) : isOdd (decK (2 * j + 1) v bcd) = !isOdd v := by
  rw [decK_succ_right, isOdd_dec, isOdd_decK_two_mul]

/-- The first step of a half on `Early`, from the odd counter of the reload (R191). -/
def earlyFirstStep : Level → Nat
  | .high => 1
  | .low => 3

/-- How far the counter has gone down `j` ticks into a half on `Early`: the first step, and then twos. -/
def earlyAmount (first : Nat) : Nat → Nat
  | 0 => 0
  | j + 1 => 2 * j + first

theorem Chan.countMode3_early_of_odd {ch : Chan} (hg : ch.gate = .high) (hcount : isOdd ch.countRegister = true)
    (hodd : isOdd ch.countingElement = true) : ch.countMode3 .early = ch.squareStep (earlyFirstStep ch.output) := by
  rw [Chan.countMode3_of_odd_early hg hcount, Chan.earlyStep, hodd]
  cases ch.output <;> rfl

theorem Chan.countMode3_early_of_even {ch : Chan} (hg : ch.gate = .high) (hcount : isOdd ch.countRegister = true)
    (heven : isOdd ch.countingElement = false) : ch.countMode3 .early = ch.squareStep 2 := by
  rw [Chan.countMode3_of_odd_early hg hcount, Chan.earlyStep, heven]
  rfl

/-- After its first step, which is odd, a half on `Early` goes on at even values. -/
theorem isOdd_decK_earlyAmount (o : Level) (j : Nat) {v : Count} (bcd : Bool) (hv : isOdd v = true) :
    isOdd (decK (earlyAmount (earlyFirstStep o) (j + 1)) v bcd) = false := by
  have hodd (k : Nat) : isOdd (decK (2 * k + 1) v bcd) = false := by
    rw [isOdd_decK_odd, hv]
    rfl
  cases o with
  | high => exact hodd j
  | low => exact hodd (j + 1)

/-- A half of an odd count on `Early`: its first step depends on the level, and every other step is two. -/
theorem Chan.HalfStart.half_of_odd_early {p : Params} {ch : Chan} (h : ch.HalfStart)
    (hv : ValidCount ch.bcd ch.countRegister) (hp : p.variant = .early)
    (hload : ch.countingElement = ch.countRegister) (hodd : isOdd ch.countRegister = true) {n : Nat}
    (hn : loadedCount ch.bcd ch.countRegister = 2 * n + earlyFirstStep ch.output) :
    ch.Half p (n + 1) fun j => decK (earlyAmount (earlyFirstStep ch.output) j) ch.countRegister ch.bcd := by
  have hfirst : 0 < earlyFirstStep ch.output := by
    cases ch.output <;> decide
  refine h.half_of_amounts hv hload.symm (fun j _ => ?_) (fun j => ?_) (fun j hj => ?_) hn.symm
  · rw [hp]
    cases j with
    | zero =>
      exact ⟨earlyFirstStep ch.output, by simp [earlyAmount],
        Chan.countMode3_early_of_odd (ch := ch.withCounter _) h.gate hodd hodd⟩
    | succ j =>
      exact ⟨2, by simp only [earlyAmount]; omega, Chan.countMode3_early_of_even (ch := ch.withCounter _) h.gate hodd
        (isOdd_decK_earlyAmount ch.output j ch.bcd hodd)⟩
  · exact Nat.add_pos_right _ hfirst
  · rw [hn, earlyAmount]
    omega

/-! Odd counts on `Late` (R192). -/

/-- The high half on `Late` goes down by twos from one below the count and toggles a tick after zero. -/
theorem Chan.HalfStart.half_of_odd_late_high {p : Params} {ch : Chan} (h : ch.HalfStart)
    (hv : ValidCount ch.bcd ch.countRegister) (hp : p.variant = .late) (hout : ch.output = .high)
    (hload : ch.countingElement = dec ch.countRegister ch.bcd) (hodd : isOdd ch.countRegister = true) {n : Nat}
    (hn : loadedCount ch.bcd ch.countRegister = 2 * n + 1) :
    ch.Half p (n + 1) fun j => decK (2 * j + 1) ch.countRegister ch.bcd := by
  have hrule (ce : Count) : (ch.withCounter ce).tick p =
      if ce = 0 then (ch.withCounter ce).toggleReload else (ch.withCounter ce).decBy 2 := by
    rw [h.tick, hp]
    exact Chan.countMode3_of_odd_late_high (ch := ch.withCounter ce) h.gate hodd hout
  refine Chan.half_of_steps hload.symm (fun j hj => ?_) ?_
  · have hne : ¬ decK (2 * j + 1) ch.countRegister ch.bcd = 0 := by
      rw [decK_eq_zero_iff hv (Nat.succ_pos _) (by omega)]
      omega
    rw [hrule, if_neg hne, show 2 * (j + 1) + 1 = 2 * j + 1 + 2 by omega, decK_add (2 * j + 1) 2]
    rfl
  · rw [hrule, if_pos ((decK_eq_zero_iff hv (Nat.succ_pos _) (by omega)).mpr hn.symm), h.toggleReload]

/-- The low half on `Late` goes down by twos from one below the count and toggles at zero. -/
theorem Chan.HalfStart.half_of_odd_late_low {p : Params} {ch : Chan} (h : ch.HalfStart)
    (hv : ValidCount ch.bcd ch.countRegister) (hp : p.variant = .late) (hout : ch.output = .low)
    (hload : ch.countingElement = dec ch.countRegister ch.bcd) (hodd : isOdd ch.countRegister = true) {n : Nat}
    (hn : loadedCount ch.bcd ch.countRegister = 2 * n + 3) :
    ch.Half p (n + 1) fun j => decK (2 * j + 1) ch.countRegister ch.bcd := by
  refine h.half_of_amounts hv hload.symm (fun j _ => ⟨2, by omega, ?_⟩) (fun j => by omega)
    (fun j hj => by omega) (by omega)
  rw [hp]
  exact Chan.countMode3_of_odd_late_low (ch := ch.withCounter _) h.gate hodd hout

/-- An odd count of three or more makes a high half of `(N + 1) / 2` ticks and a low half of `(N - 1) / 2`, on both
variants. -/
theorem Chan.Inv.halves_of_odd {p : Params} {ch : Chan} (h : ch.Inv p.variant) (hm : ch.mode = .mode3)
    (hg : ch.gate = .high) (hv : ValidCount ch.bcd ch.countRegister) (hodd : isOdd ch.countRegister = true) {n : Nat}
    (hn : loadedCount ch.bcd ch.countRegister = 2 * n + 3) :
    ∃ e₁ e₂, ch.loadCycle.Half p (n + 2) e₁ ∧ ch.loadCycle.toggled.Half p (n + 1) e₂ := by
  obtain ⟨hstart, hout⟩ := Chan.halfStart_loadCycle hm hg
  have hlow : ch.loadCycle.toggled.output = .low := by
    rw [Chan.toggled, hout]
    rfl
  have hmask := h.maskFits
  cases hp : p.variant with
  | early =>
    have hload : ch.loadCycle.countingElement = ch.countRegister := by
      rw [Chan.loadCycle_countingElement, hmask, hp]
      exact and_fullMask _
    refine ⟨_, _, hstart.half_of_odd_early (n := n + 1) hv hp hload hodd ?_,
      hstart.toggled.half_of_odd_early (n := n) hv hp hload hodd ?_⟩
    · rw [hout]
      exact hn
    · rw [hlow]
      exact hn
  | late =>
    have hload : ch.loadCycle.countingElement = dec ch.countRegister ch.bcd := by
      rw [Chan.loadCycle_countingElement, hmask, hp, hm]
      exact and_lateMask_of_odd ch.bcd hodd
    exact ⟨_, _, hstart.half_of_odd_late_high (n := n + 1) hv hp hout hload hodd hn,
      hstart.toggled.half_of_odd_late_low hv hp hlow hload hodd hn⟩

/-- Settles O51: the two halves make up the period. -/
theorem squareWaveOddPeriodOnBothVariants : Obligations.SquareWaveOddPeriodOnBothVariants := by
  intro p ch k hinv hm hg hs hv hodd N hthree hk
  have hodd' : isOdd ch.countRegister = true := hodd
  have hparity := loadedCount_mod_two hv
  rw [hodd', Bool.toNat_true] at hparity
  obtain ⟨n, hn⟩ : ∃ n, N = 2 * n + 3 := ⟨(N - 3) / 2, by omega⟩
  obtain ⟨e₁, e₂, hhigh, hlow⟩ := hinv.halves_of_odd hm hg hv hodd' hn
  obtain ⟨hlevels, hperiod⟩ := Chan.square_wave (Chan.halfStart_loadCycle hm hg).2 hhigh hlow
  have hsum : N = n + 2 + (n + 1) := by omega
  have hhalf : (N + 1) / 2 = n + 2 := by omega
  rw [Chan.tick_of_waitingForLoadCycle p hs, hhalf]
  exact ⟨hlevels k (by omega), by rwa [← hsum] at hperiod⟩

/-! An odd counter under an even count (R196, R246). -/

/-- A running square wave of an even count whose counter is odd, with its output at `o`. -/
structure Chan.Stuck (o : Level) (ch : Chan) : Prop where
  mode : ch.mode = .mode3
  counting : ch.countingState = .counting
  evenCount : isOdd ch.countRegister = false
  oddCounter : isOdd ch.countingElement = true
  output : ch.output = o

/-- Two decrements keep an odd counter odd, so it never reaches zero. -/
theorem Chan.Stuck.tick {o : Level} {ch : Chan} (h : ch.Stuck o) (p : Params) : (ch.tick p).Stuck o := by
  obtain ⟨hm, hs, heven, hodd, hout⟩ := h
  rw [Chan.tick_of_counting_mode p hs hm]
  cases hg : ch.gate with
  | low =>
    rw [Chan.countMode, Chan.countMode3_of_low _ hg]
    exact ⟨hm, hs, heven, hodd, hout⟩
  | high =>
    have hodd' : isOdd (decK 2 ch.countingElement ch.bcd) = true := (isOdd_decK_two_mul 1 _ _).trans hodd
    have hne : decK 2 ch.countingElement ch.bcd ≠ 0 := fun hz => by
      rw [hz] at hodd'
      exact absurd hodd' (by decide)
    rw [Chan.countMode, Chan.countMode3_of_even _ hg heven, Chan.squareStep_of_ne_zero hne]
    exact ⟨hm, hs, heven, hodd', hout⟩

/-- Settles O53: no number of ticks frees the wave. -/
theorem oddCounterUnderEvenCountNeverToggles : Obligations.OddCounterUnderEvenCountNeverToggles := by
  intro p ch n hm hs heven hodd
  have hstuck : (Chan.ticks p n ch).Stuck ch.output :=
    Chan.ticks_induction (fun _ h => h.tick p) n ⟨hm, hs, heven, hodd, rfl⟩
  exact ⟨hstuck.output, hstuck.oddCounter⟩

end Sys2Proof.Machine
end
